-- ==== Sys2Proof/Word.lean ====
section
/-! DEFINITION. The word types of the motion-control core (MCC): register widths of spec/10_state.md, as bit
vectors (spec/00_scope.md R8), and the percentage type of the PWM (spec/44_pwm_actuation.md R141). -/

namespace Sys2Proof

/-- A command byte (spec/30_encoding.md R64). -/
abbrev Byte := BitVec 8

/-- A 16-bit register of the PWM (spec/10_state.md R27, R28). -/
abbrev Word16 := BitVec 16

/-- A 32-bit register: time stamps, counts, frequencies (spec/10_state.md R30 to R42). -/
abbrev Word32 := BitVec 32

/-- A duty percentage, 0 to 100: "A model gives the argument the type of natural numbers not above 100"
(spec/44_pwm_actuation.md R141). The 7-bit registers ACT_DUTY and SCALE hold no other value
(spec/10_state.md R23, R24, R49). DESIGN CHOICE, safe: notes/assumptions/10.md. -/
abbrev Percent := Fin 101

/-- The value on the 7-bit port `ad_duty[6:0]`, 0 to 127 (spec/00_scope.md R15). -/
abbrev AdValue := BitVec 7

end Sys2Proof
end

