-- ==== Sys2Proof/Syntax.lean ====
section
/-! DEFINITION. The instruction set: one constructor per row of spec/opcode_table.json, in the table's order
(spec/30_encoding.md R65, R67, R74). No command has an operand (R70). -/

namespace Sys2Proof

/-- The 12 motion commands and the sentinel row `NOCMD`. -/
inductive Instr where
  /-- `Stop`, spec/40_dispatcher.md R80. -/
  | stop
  /-- `RotateCW90`, R81. -/
  | rotateCW90
  /-- `RotateCW45`, R82. -/
  | rotateCW45
  /-- `RotateCCW90`, R83. -/
  | rotateCCW90
  /-- `RotateCCW45`, R84. -/
  | rotateCCW45
  /-- `DriveForwardHalf`, R85. -/
  | driveForwardHalf
  /-- `DriveForwardFull`, R86. -/
  | driveForwardFull
  /-- `DriveReverseHalf`, R87. -/
  | driveReverseHalf
  /-- `DriveReverseFull`, R88. -/
  | driveReverseFull
  /-- `AlignToBeacon`, R89. -/
  | alignToBeacon
  /-- `DriveToLine`, R90. -/
  | driveToLine
  /-- `EndRun`, R91. -/
  | endRun
  /-- `NOCMD`, the sentinel byte, R67 and R77. -/
  | nocmd
  deriving DecidableEq, Repr

/-- Every instruction, in the order of the table. -/
def Instr.all : List Instr :=
  [.stop, .rotateCW90, .rotateCW45, .rotateCCW90, .rotateCCW45, .driveForwardHalf, .driveForwardFull,
   .driveReverseHalf, .driveReverseFull, .alignToBeacon, .driveToLine, .endRun, .nocmd]

end Sys2Proof
end

