-- ==== Sys2Proof/Config.lean ====
section
/-! DEFINITION. The configuration record `Cfg` of spec/00_scope.md R5: every parameter the spec leaves OPEN is a
field. The constraints of R5 are checked in Sys2Proof/WellFormed.lean; the derived constants of R6 stand in
Sys2Proof/Machine/Operands.lean; the reference instantiation REF of R7 in Sys2Proof/Decode.lean. -/

namespace Sys2Proof

/-- The two senses of a rotation, the operand of `start_rotation` and the type of `BEACON_DIR`
(spec/44_pwm_actuation.md R153, R154). -/
inductive Rotation where
  | cw
  | ccw
  deriving DecidableEq, Repr

/-- The two senses of a drive, the operand of `drive` (spec/44_pwm_actuation.md R152). -/
inductive Heading where
  | forward
  | reverse
  deriving DecidableEq, Repr

/-- The configuration record (spec/00_scope.md R5). `HALF_DUTY` and `FULL_DUTY` are fixed and are no fields. -/
structure Cfg where
  /-- `CLOCK_RATE_HZ`. -/
  clockRateHz : Nat
  /-- `PWM_PERIOD`, written `P`. -/
  pwmPeriod : Nat
  /-- `T45_MS`. -/
  t45Ms : Nat
  /-- `T90_MS`. -/
  t90Ms : Nat
  /-- `ROT_DUTY`, 0 to 100. -/
  rotDuty : Percent
  /-- `BEACON_DIR`. -/
  beaconDir : Rotation
  /-- `TARGET_HZ`. -/
  targetHz : Nat
  /-- `TOL_PCT`. -/
  tolPct : Nat
  /-- `WARMUP`. -/
  warmup : Nat
  /-- `HZ_CEILING`. -/
  hzCeiling : Nat
  /-- `SENTINEL`. -/
  sentinel : Byte
  opStop : Byte
  opRotateCW90 : Byte
  opRotateCW45 : Byte
  opRotateCCW90 : Byte
  opRotateCCW45 : Byte
  opDriveForwardHalf : Byte
  opDriveForwardFull : Byte
  opDriveReverseHalf : Byte
  opDriveReverseFull : Byte
  opAlignToBeacon : Byte
  opDriveToLine : Byte
  opEndRun : Byte
  deriving DecidableEq, Repr

end Sys2Proof
end

