-- ==== Sys2Proof/Decode.lean ====
section
/-! DEFINITION. The reference instantiation, the decode function (spec/30_encoding.md R68), total on the 256 bytes,
and after it the encoder, written from the opcode map of R65 and R67. -/

namespace Sys2Proof

/-- The reference instantiation `REF` (spec/00_scope.md R7) with the default opcodes of spec/30_encoding.md R65.
It "is not a claim about any chip". DESIGN CHOICE where State.reset and decodeTableWord use it, unsafe:
notes/assumptions/5.md and 6.md. -/
def Cfg.reference : Cfg where
  clockRateHz := 40000000
  pwmPeriod := 1250
  t45Ms := 500
  t90Ms := 1000
  rotDuty := 50
  beaconDir := .cw
  targetHz := 1950
  tolPct := 20
  warmup := 3
  hzCeiling := 10000
  sentinel := 0xFF
  opStop := 0x00
  opRotateCW90 := 0x01
  opRotateCW45 := 0x02
  opRotateCCW90 := 0x03
  opRotateCCW45 := 0x04
  opDriveForwardHalf := 0x05
  opDriveForwardFull := 0x06
  opDriveReverseHalf := 0x07
  opDriveReverseFull := 0x08
  opAlignToBeacon := 0x09
  opDriveToLine := 0x0A
  opEndRun := 0x0B

/-- What a byte decodes to. The spec's `NoCommand` is the instruction `nocmd`; its `Known(name)` the instruction of
that name; its `Unknown` keeps the byte it rejects (spec/30_encoding.md R68, R69). DEDUCED, safe:
notes/assumptions/11.md. -/
inductive Decoded where
  | instr (i : Instr)
  | unknownOpcode (b : Byte)
  deriving DecidableEq, Repr

/-- `decode(b)`, the sentinel test first (spec/30_encoding.md R68). -/
def decode (c : Cfg) (b : Byte) : Decoded :=
  if b = c.sentinel then .instr .nocmd
  else if b = c.opStop then .instr .stop
  else if b = c.opRotateCW90 then .instr .rotateCW90
  else if b = c.opRotateCW45 then .instr .rotateCW45
  else if b = c.opRotateCCW90 then .instr .rotateCCW90
  else if b = c.opRotateCCW45 then .instr .rotateCCW45
  else if b = c.opDriveForwardHalf then .instr .driveForwardHalf
  else if b = c.opDriveForwardFull then .instr .driveForwardFull
  else if b = c.opDriveReverseHalf then .instr .driveReverseHalf
  else if b = c.opDriveReverseFull then .instr .driveReverseFull
  else if b = c.opAlignToBeacon then .instr .alignToBeacon
  else if b = c.opDriveToLine then .instr .driveToLine
  else if b = c.opEndRun then .instr .endRun
  else .unknownOpcode b

/-- The byte of an instruction: the opcode map of spec/30_encoding.md R65 with the parameters of R66, and the
sentinel (R67). One byte is the whole encoding (R64). -/
def encode (c : Cfg) : Instr → Byte
  | .stop => c.opStop
  | .rotateCW90 => c.opRotateCW90
  | .rotateCW45 => c.opRotateCW45
  | .rotateCCW90 => c.opRotateCCW90
  | .rotateCCW45 => c.opRotateCCW45
  | .driveForwardHalf => c.opDriveForwardHalf
  | .driveForwardFull => c.opDriveForwardFull
  | .driveReverseHalf => c.opDriveReverseHalf
  | .driveReverseFull => c.opDriveReverseFull
  | .alignToBeacon => c.opAlignToBeacon
  | .driveToLine => c.opDriveToLine
  | .endRun => c.opEndRun
  | .nocmd => c.sentinel

/-- The byte of an instruction whose bits are `w`: one byte holds the whole of it (spec/30_encoding.md R64). -/
def tableByte (nbits w : Nat) : Byte := BitVec.ofNat 8 (w % 2 ^ nbits)

/-- The instruction the decoder reads from a word of spec/opcode_table.json, whose `match` values are the defaults
(spec/30_encoding.md R74). DESIGN CHOICE, unsafe: notes/assumptions/6.md. -/
def decodeTableWord (nbits w : Nat) : Option Instr :=
  match decode Cfg.reference (tableByte nbits w) with
  | .instr i => some i
  | .unknownOpcode _ => none

end Sys2Proof
end

