-- ==== Sys2Proof/Machine/Operands.lean ====
section
/-! DEFINITION. The derived constants (spec/00_scope.md R6), the direction codes (spec/10_state.md R25,
spec/44_pwm_actuation.md R151) and what each command needs as a function of its opcode alone
(spec/30_encoding.md R70). No command has an operand field. -/

namespace Sys2Proof.Machine

/-- `TICKS_PER_MS` (spec/00_scope.md R6). -/
def ticksPerMs (c : Cfg) : Nat := c.clockRateHz / 1000

/-- `MARGIN_HZ` (R6). -/
def marginHz (c : Cfg) : Nat := c.targetHz * c.tolPct / 100

/-- `LO_HZ` (R6). -/
def loHz (c : Cfg) : Nat := c.targetHz - marginHz c

/-- `HI_HZ` (R6). -/
def hiHz (c : Cfg) : Nat := c.targetHz + marginHz c

/-- `HALF_DUTY`, fixed (spec/00_scope.md R5). -/
def halfDuty : Percent := 50

/-- `FULL_DUTY`, fixed (R5). -/
def fullDuty : Percent := 100

/-- A logical direction of the actuation primitives (spec/44_pwm_actuation.md R151). -/
inductive Direction where
  | forward
  | reverse
  | cw
  | ccw
  deriving DecidableEq, Repr

/-- `enc(direction)`: bit 0 is the left motor's line, bit 1 the right motor's, 1 is the reverse sense
(spec/10_state.md R25, spec/44_pwm_actuation.md R151). -/
def dirCode : Direction → BitVec 2
  | .forward => 0b00
  | .reverse => 0b11
  | .cw => 0b10
  | .ccw => 0b01

/-- The direction lines of the stop state, both low (R25). -/
def stopDirCode : BitVec 2 := 0b00

def headingDirection : Heading → Direction
  | .forward => .forward
  | .reverse => .reverse

def rotationDirection : Rotation → Direction
  | .cw => .cw
  | .ccw => .ccw

/-- A row of the table of spec/30_encoding.md R70. `timeoutMs` is the timeout the command arms the watchdog with. -/
structure CommandRow where
  timeoutMs : Option Nat
  duty : Percent
  dirLines : BitVec 2
  enablesCapture : Bool
  enablesLine : Bool
  clearsGate : Bool
  deriving DecidableEq, Repr

/-- The "single configuration table" of spec/30_encoding.md R70; the sentinel is no command and has no row. The
meanings of the commands are written from R80 to R91, not from this table: that the two agree is a statement. -/
def commandRow (c : Cfg) : Instr → Option CommandRow
  | .stop => some ⟨none, 0, stopDirCode, false, false, false⟩
  | .rotateCW90 => some ⟨some c.t90Ms, c.rotDuty, dirCode .cw, false, false, false⟩
  | .rotateCW45 => some ⟨some c.t45Ms, c.rotDuty, dirCode .cw, false, false, false⟩
  | .rotateCCW90 => some ⟨some c.t90Ms, c.rotDuty, dirCode .ccw, false, false, false⟩
  | .rotateCCW45 => some ⟨some c.t45Ms, c.rotDuty, dirCode .ccw, false, false, false⟩
  | .driveForwardHalf => some ⟨none, 50, dirCode .forward, false, false, false⟩
  | .driveForwardFull => some ⟨none, 100, dirCode .forward, false, false, false⟩
  | .driveReverseHalf => some ⟨none, 50, dirCode .reverse, false, false, false⟩
  | .driveReverseFull => some ⟨none, 100, dirCode .reverse, false, false, false⟩
  | .alignToBeacon => some ⟨none, c.rotDuty, dirCode (rotationDirection c.beaconDir), true, false, false⟩
  | .driveToLine => some ⟨none, 100, dirCode .forward, false, true, false⟩
  | .endRun => some ⟨none, 0, stopDirCode, false, false, true⟩
  | .nocmd => none

end Sys2Proof.Machine
end

