-- ==== Sys2Proof/Machine/State.lean ====
section
/-! DEFINITION. The state of the MCC (spec/10_state.md R17 to R44) and the machine right after reset
(spec/70_reset_and_hazards.md R183). -/

namespace Sys2Proof.Machine

/-- `MOTION`, the MotionState (spec/10_state.md R18). Code 0b11 is no value (U17). -/
inductive Motion where
  | idle
  | executing
  | converging
  deriving DecidableEq, Repr

/-- `PWM_MODE` (R26). -/
inductive PwmMode where
  | forcedLow
  | forcedHigh
  | compare
  deriving DecidableEq, Repr

/-- `DET_STATE`, the Beacon Detector's state (R38). -/
inductive DetState where
  | idle
  | searching
  | converged
  deriving DecidableEq, Repr

/-- The path that invoked `stop()` (spec/00_scope.md R14). -/
inductive StopCause where
  | cmd
  | wdtFire
  | beaconConverged
  | lineDone
  deriving DecidableEq, Repr

/-- An output event of the trace (spec/00_scope.md R14). -/
inductive TraceEvent where
  | reqNext
  | stop (cause : StopCause)
  | continueAligning
  deriving DecidableEq, Repr

/-- One atomic step of one agent (the table of spec/00_scope.md R11). -/
inductive ScheduledStep where
  /-- Clock. -/
  | tick
  /-- Link: the byte on `cmd_byte`. -/
  | dispatch (b : Byte)
  /-- Watchdog interrupt. -/
  | wdtIsr
  /-- Beacon input. -/
  | edge
  /-- Service loop. -/
  | handleContinue
  /-- Line sensor. -/
  | lineDone
  /-- A/D: the value on `ad_duty`. -/
  | adSample (v : AdValue)
  /-- Reset. -/
  | reset
  deriving DecidableEq, Repr

/-- The state: the 25 registers and the trace of spec/10_state.md, and two fields of the model's own (`cfg`,
`schedule`). -/
structure State where
  /-- MODEL's own, not the spec's state: the configuration the machine is an instance of. No step writes it.
  DESIGN CHOICE, safe: notes/assumptions/4.md. -/
  cfg : Cfg
  /-- MODEL's own: the steps the agents will take, first one next (spec/00_scope.md R12). DESIGN CHOICE, safe:
  notes/assumptions/1.md. -/
  schedule : List ScheduledStep
  /-- `MOTION` (R18). -/
  motion : Motion
  /-- `GATE` (R19). -/
  gate : Bool
  /-- `CMD_REG` (R20). -/
  cmdReg : Byte
  /-- `LINE_IE` (R21). -/
  lineIe : Bool
  /-- `CONT_PEND` (R22). -/
  contPend : Bool
  /-- `ACT_DUTY` (R23). -/
  actDuty : Percent
  /-- `SCALE` (R24). -/
  scale : Percent
  /-- `DIR` (R25). -/
  dir : BitVec 2
  /-- `PWM_MODE` (R26). -/
  pwmMode : PwmMode
  /-- `PWM_CMP` (R27). -/
  pwmCmp : Word16
  /-- `PWM_CNT` (R28). -/
  pwmCnt : Word16
  /-- `WDT_ARMED` (R29). -/
  wdtArmed : Bool
  /-- `WDT_TIMEOUT_MS` (R30). -/
  wdtTimeoutMs : Word32
  /-- `WDT_COUNT` (R31). -/
  wdtCount : Word32
  /-- `WDT_PEND` (R32). -/
  wdtPend : Bool
  /-- `CAP_TIMER` (R33). -/
  capTimer : Word32
  /-- `CAP_IE` (R34). -/
  capIe : Bool
  /-- `LAST_EDGE` (R35). -/
  lastEdge : Word32
  /-- `THIS_EDGE` (R36). -/
  thisEdge : Word32
  /-- `PERIOD` (R37). -/
  period : Word32
  /-- `DET_STATE` (R38). -/
  detState : DetState
  /-- `INSTANT_HZ` (R39). -/
  instantHz : Word32
  /-- `RUNNING_SUM_HZ` (R40). -/
  runningSumHz : Word32
  /-- `SAMPLE_COUNT` (R41). -/
  sampleCount : Word32
  /-- `AVERAGED_HZ` (R42). -/
  averagedHz : Word32
  /-- The trace, oldest event first (R44; spec/00_scope.md R14): ghost state, read by no step. DESIGN
  CHOICE, safe: notes/assumptions/17.md. -/
  trace : List TraceEvent
  deriving DecidableEq, Repr

/-- The MCC raises no exception and has no trap: "A model has no fault outcome" (spec/60_exceptions.md R161). So
nothing raises a fault. DEDUCED, safe: notes/assumptions/9.md. -/
inductive Fault where
  deriving DecidableEq, Repr

/-- Why a step is refused. No instruction is ever refused. -/
inductive Refusal where
  /-- An instruction without a meaning. No arm of exec answers it: all 13 rows have their meaning. Safe. -/
  | notModelled (mnemonic : String)
  /-- Raised by a `wdt_isr` entry of the schedule taken with `WDT_PEND = 0`: "the step is not enabled, the script is
  not an execution" (spec/93_implementation_defined.md U18). Safe: notes/assumptions/7.md. -/
  | wdtIsrNotEnabled
  /-- Raised by a `handle_continue` entry taken with `CONT_PEND = 0` (U18). Safe: notes/assumptions/7.md. -/
  | handleContinueNotEnabled
  /-- Raised by every step of a machine whose configuration violates spec/00_scope.md R5 (U19). Safe:
  notes/assumptions/8.md. -/
  | illFormedConfig
  deriving DecidableEq, Repr

/-- The reset state of the machine built with configuration `c` (spec/70_reset_and_hazards.md R183; the table of
spec/10_state.md R52), with no step scheduled. -/
def State.resetWith (c : Cfg) : State where
  cfg := c
  schedule := []
  motion := .idle
  gate := true
  cmdReg := c.sentinel
  lineIe := false
  contPend := false
  actDuty := 0
  scale := 100
  dir := 0b00
  pwmMode := .forcedLow
  pwmCmp := BitVec.ofNat 16 c.pwmPeriod
  pwmCnt := BitVec.ofNat 16 (c.pwmPeriod - 1)
  wdtArmed := false
  wdtTimeoutMs := 0
  wdtCount := 0
  wdtPend := false
  capTimer := 0
  capIe := false
  lastEdge := 0
  thisEdge := 0
  period := 0
  detState := .idle
  instantHz := 0
  runningSumHz := 0
  sampleCount := 0
  averagedHz := 0
  trace := []

/-- The machine right after reset, for the reference instantiation (spec/00_scope.md R7). DESIGN CHOICE, unsafe:
notes/assumptions/5.md. -/
def State.reset : State := State.resetWith Cfg.reference

end Sys2Proof.Machine
end

