-- ==== Sys2Proof/Machine/Flags.lean ====
section
/-! DEFINITION. The conditions the steps test (spec/10_state.md R47): the enabling of the two deferred steps, the
glitch and band tests of the estimator, and the binary codes of the enumerated registers. The MCC has no arithmetic
condition codes. -/

namespace Sys2Proof.Machine

/-- The wraparound-aware difference of two 32-bit values (spec/00_scope.md R9). -/
def wrapDiff (a b : Word32) : Word32 := a - b

/-- `wdt_isr` is "enabled exactly when WDT_PEND = 1" (spec/41_watchdog.md R107). -/
def wdtIsrEnabled (s : State) : Bool := s.wdtPend

/-- `handle_continue` is "enabled exactly when CONT_PEND = 1" (spec/43_frequency_convergence.md R133). -/
def handleContinueEnabled (s : State) : Bool := s.contPend

/-- `hz = CLOCK_RATE_HZ div p` (spec/43_frequency_convergence.md R122); it is asked for `p ≥ 1` only. -/
def periodHz (c : Cfg) (p : Word32) : Nat := c.clockRateHz / p.toNat

/-- A capture that is discarded: a zero period (R121) or a frequency above the ceiling (R123). -/
def isGlitch (c : Cfg) (p : Word32) : Bool := decide (p = 0) || decide (c.hzCeiling < periodHz c p)

/-- A tested sample is in band when `LO_HZ ≤ hz ≤ HI_HZ` (R126). -/
def inBand (c : Cfg) (hz : Nat) : Bool := decide (loHz c ≤ hz) && decide (hz ≤ hiHz c)

/-- A sample is tested when the new count is strictly greater than `WARMUP` (R125). -/
def isTested (c : Cfg) (count : Word32) : Bool := decide (c.warmup < count.toNat)

/-- The code of `MOTION` (spec/10_state.md R18). -/
def motionCode : Motion → BitVec 2
  | .idle => 0b00
  | .executing => 0b01
  | .converging => 0b10

/-- The code of `PWM_MODE` (R26). -/
def pwmModeCode : PwmMode → BitVec 2
  | .forcedLow => 0b00
  | .forcedHigh => 0b01
  | .compare => 0b10

/-- The code of `DET_STATE` (R38). -/
def detStateCode : DetState → BitVec 2
  | .idle => 0b00
  | .searching => 0b01
  | .converged => 0b10

/-- The 7-bit register that holds a percentage (R23, R24). -/
def percentCode (p : Percent) : BitVec 7 := BitVec.ofNat 7 p.val

end Sys2Proof.Machine
end

