-- ==== Sys2Proof/Machine/Pwm.lean ====
section
/-! DEFINITION. The PWM Generator (spec/44_pwm_actuation.md R137 to R149, R159): `set_duty` with its boundary cases,
the period counter, the edge-aligned output, the duty-cycle scaling input, and the output lines. -/

namespace Sys2Proof.Machine

/-- `P − ((e × P) div 100)`: the product is formed first (R140, R147). -/
def compareThreshold (period e : Nat) : Nat := period - e * period / 100

/-- `set_duty(e)` (R138, R139, R140): 0 and 100 force the output and leave `PWM_CMP` as it is. -/
def setDuty (e : Percent) (s : State) : State :=
  if e.val = 0 then { s with pwmMode := .forcedLow }
  else if e.val = 100 then { s with pwmMode := .forcedHigh }
  else { s with
    pwmCmp := BitVec.ofNat 16 (compareThreshold s.cfg.pwmPeriod e.val)
    pwmMode := .compare }

/-- The effective duty of two percentages is a percentage (R148). -/
theorem effectiveDuty_bound (duty scale : Percent) : duty.val * scale.val / 100 < 101 := by
  have h : duty.val * scale.val ≤ 100 * 100 := Nat.mul_le_mul (by omega) (by omega)
  omega

/-- `(ACT_DUTY × SCALE) div 100` (R148). -/
def effectiveDuty (duty scale : Percent) : Percent := ⟨duty.val * scale.val / 100, effectiveDuty_bound duty scale⟩

/-- `apply_duty()` (R149). -/
def applyDuty (s : State) : State := setDuty (effectiveDuty s.actDuty s.scale) s

/-- `tick_pwm()` (R142). -/
def tickPwm (s : State) : State :=
  if s.pwmCnt = 0 then { s with pwmCnt := BitVec.ofNat 16 (s.cfg.pwmPeriod - 1) }
  else { s with pwmCnt := s.pwmCnt - 1 }

/-- `pwm_out`, a pure function of the state (R143). -/
def pwmOut (s : State) : Bool :=
  match s.pwmMode with
  | .forcedLow => false
  | .forcedHigh => true
  | .compare => decide (s.pwmCmp.toNat ≤ s.pwmCnt.toNat)

/-- `dir_l`, the left motor's direction line (spec/10_state.md R25). -/
def dirL (s : State) : Bool := s.dir.getLsbD 0

/-- `dir_r`, the right motor's direction line (R25). -/
def dirR (s : State) : Bool := s.dir.getLsbD 1

/-- `ad_sample(v)` (R150): a value above 100 is ignored. -/
def adSample (v : AdValue) (s : State) : State :=
  if h : v.toNat < 101 then applyDuty { s with scale := ⟨v.toNat, h⟩ } else s

end Sys2Proof.Machine
end

