-- ==== Sys2Proof/Machine/Ops.lean ====
section
/-! DEFINITION. The named operations shared by the commands and the handlers: the trace, the actuation primitives
(spec/44_pwm_actuation.md R151 to R156), the watchdog's arm, cancel and expiry interrupt (spec/41_watchdog.md), the
re-arm of sampling (spec/43_frequency_convergence.md R132), and the frame of a dispatch (spec/40_dispatcher.md R76,
R78, R92, R93). The MCC raises no exception (spec/60_exceptions.md R161): the one operation that stands in the place
of taking one is the watchdog interrupt `wdtIsr`, which saves nothing, masks nothing and returns nowhere (R169,
R170). -/

namespace Sys2Proof.Machine

/-- `emit E`: append to the trace (spec/00_scope.md R10, R14). -/
def emit (e : TraceEvent) (s : State) : State := { s with trace := s.trace ++ [e] }

/-- `REQ_COUNT` (spec/00_scope.md R14). -/
def reqCount (s : State) : Nat := s.trace.count .reqNext

/-- `stop(cause)` (spec/44_pwm_actuation.md R156). -/
def stop (cause : StopCause) (s : State) : State :=
  emit (.stop cause) (applyDuty { s with actDuty := 0, dir := stopDirCode })

/-- `drive(d, dir)` (R152). -/
def drive (d : Percent) (h : Heading) (s : State) : State :=
  applyDuty { s with dir := dirCode (headingDirection h), actDuty := d }

/-- `start_rotation(dir)` (R153). -/
def startRotation (r : Rotation) (s : State) : State :=
  applyDuty { s with dir := dirCode (rotationDirection r), actDuty := s.cfg.rotDuty }

/-- `rotate_toward_beacon()` (R154). -/
def rotateTowardBeacon (s : State) : State := startRotation s.cfg.beaconDir s

/-- `load(t)` in ticks (spec/41_watchdog.md R102). -/
def wdtLoad (c : Cfg) (t : Nat) : Word32 := BitVec.ofNat 32 (t * ticksPerMs c)

/-- `wdt_arm(t)` (R103): an earlier expiry is withdrawn, the count restarts. -/
def wdtArm (t : Nat) (s : State) : State :=
  { s with
    wdtPend := false
    wdtTimeoutMs := BitVec.ofNat 32 t
    wdtCount := wdtLoad s.cfg t
    wdtArmed := true }

/-- `wdt_cancel()` (R104): `WDT_TIMEOUT_MS` keeps its value. -/
def wdtCancel (s : State) : State := { s with wdtArmed := false, wdtCount := 0, wdtPend := false }

/-- `tick_wdt()` (R105): the countdown and its one-shot expiry. -/
def tickWdt (s : State) : State :=
  if s.wdtArmed then
    if s.wdtCount.toNat ≤ 1 then { s with wdtCount := 0, wdtArmed := false, wdtPend := true }
    else { s with wdtCount := s.wdtCount - 1 }
  else s

/-- `wdt_isr()`, the handler `on_fire` (R107), where it is enabled. -/
def wdtIsr (s : State) : State := { stop .wdtFire { s with wdtPend := false } with motion := .idle }

/-- `rearm_sampling()` (spec/43_frequency_convergence.md R132). -/
def rearmSampling (s : State) : State :=
  { s with capIe := true, sampleCount := 0, runningSumHz := 0, detState := .searching }

/-- `retire()`, the first action of every known command (spec/40_dispatcher.md R78). -/
def retire (s : State) : State :=
  { wdtCancel s with capIe := false, detState := .idle, contPend := false, lineIe := false }

/-- The last action of a dispatch: one `ReqNext` if `GATE = 1` (R76, R93; spec/20_memory.md R59). -/
def requestNext (s : State) : State := if s.gate then emit .reqNext s else s

/-- The `Known(name)` arm of `dispatch(b)` (R76): retire, the command's body, `CMD_REG <- b`, then the request. -/
def dispatchKnown (b : Byte) (body : State → State) (s : State) : State :=
  requestNext { body (retire s) with cmdReg := b }

/-- The `Unknown` arm of `dispatch(b)` (R76, R92): no register is written. -/
def dispatchUnknown (s : State) : State := requestNext s

end Sys2Proof.Machine
end

