-- ==== Sys2Proof/Machine/Clock.lean ====
section
/-! DEFINITION. The Clock agent: `tick` (spec/70_reset_and_hazards.md R190), `n` ticks at once (R191), and the
waveform between ticks (spec/44_pwm_actuation.md R159). -/

namespace Sys2Proof.Machine

/-- The capture time base's part of a tick (spec/42_capture_period.md R112). -/
def tickCapTimer (s : State) : State := { s with capTimer := s.capTimer + 1 }

/-- `tick()` (R190). Time is the number of ticks (DEDUCED, safe: notes/assumptions/14.md). -/
def tick (s : State) : State := tickWdt (tickCapTimer (tickPwm s))

/-- `n` iterations of `tick` with no other step between them. -/
def tickTimes : Nat → State → State
  | 0, s => s
  | n + 1, s => tickTimes n (tick s)

/-- The watchdog registers after `n ≥ 1` ticks at once (spec/41_watchdog.md R109). -/
def wdtAfterTicks (n : Nat) (s : State) : State :=
  if s.wdtArmed then
    if n < max s.wdtCount.toNat 1 then { s with wdtCount := BitVec.ofNat 32 (s.wdtCount.toNat - n) }
    else { s with wdtCount := 0, wdtArmed := false, wdtPend := true }
  else s

/-- `(PWM_CNT − n) mod P` for `PWM_CNT < P` (spec/44_pwm_actuation.md R142, R159). -/
def pwmCntAfterTicks (period cnt n : Nat) : Nat := (cnt + (period - n % period)) % period

/-- The closed form of `n ≥ 1` ticks (spec/70_reset_and_hazards.md R191). -/
def ticksAtOnce (n : Nat) (s : State) : State :=
  wdtAfterTicks n
    { s with
      pwmCnt := BitVec.ofNat 16 (pwmCntAfterTicks s.cfg.pwmPeriod s.pwmCnt.toNat n)
      capTimer := s.capTimer + BitVec.ofNat 32 n }

/-- `pwm_out` at the state and after each of the next ticks, `n` values (spec/44_pwm_actuation.md R159). -/
def pwmWave : Nat → State → List Bool
  | 0, _ => []
  | n + 1, s => pwmOut s :: pwmWave n (tick s)

end Sys2Proof.Machine
end

