-- ==== Sys2Proof/Machine/Detector.lean ====
section
/-! DEFINITION. The Beacon Detector: the edge-capture step (spec/42_capture_period.md R111 to R118), the frequency
estimator and convergence test (spec/43_frequency_convergence.md R119 to R131) and the consumption of the "continue
aligning" self-event (R133). -/

namespace Sys2Proof.Machine

/-- `converge()` (R129). -/
def converge (s : State) : State :=
  { stop .beaconConverged { s with capIe := false, contPend := false } with detState := .converged, motion := .idle }

/-- `publish_and_continue()` (R130): `SAMPLE_COUNT` and `CAP_IE` stay. -/
def publishAndContinue (s : State) : State :=
  emit .continueAligning
    { s with
      averagedHz := BitVec.ofNat 32 (s.runningSumHz.toNat / s.sampleCount.toNat)
      runningSumHz := 0
      contPend := true }

/-- The accumulation of an accepted sample, modulo 2^32 (R124). -/
def accumulate (hz : Nat) (s : State) : State :=
  { s with
    instantHz := BitVec.ofNat 32 hz
    runningSumHz := s.runningSumHz + BitVec.ofNat 32 hz
    sampleCount := s.sampleCount + 1 }

/-- The test of an accumulated sample, after the warm-up only (R120, R125, R126). -/
def testSample (hz : Nat) (s : State) : State :=
  if isTested s.cfg s.sampleCount then
    if inBand s.cfg hz then converge s else publishAndContinue s
  else s

/-- `estimator_sample(p)` (R120): a glitch is discarded (R121, R123, R128). -/
def estimatorSample (p : Word32) (s : State) : State :=
  if isGlitch s.cfg p then s else testSample (periodHz s.cfg p) (accumulate (periodHz s.cfg p) s)

/-- The capture part of `edge` (spec/42_capture_period.md R114, R115), glitch or not. -/
def captureEdge (s : State) : State :=
  { s with
    lastEdge := s.thisEdge
    thisEdge := s.capTimer
    period := wrapDiff s.capTimer s.thisEdge }

/-- `edge()` (R114): capture and handler as one step; with `CAP_IE = 0` nothing. -/
def edge (s : State) : State :=
  if s.capIe then estimatorSample (captureEdge s).period (captureEdge s) else s

/-- `handle_continue()` (spec/43_frequency_convergence.md R133), where it is enabled. -/
def handleContinue (s : State) : State :=
  if s.motion = .converging then rearmSampling (rotateTowardBeacon { s with contPend := false })
  else { s with contPend := false }

end Sys2Proof.Machine
end

