-- ==== Sys2Proof/Machine/AlignCommand.lean ====
section
/-! DEFINITION. `AlignToBeacon` (spec/40_dispatcher.md R89). -/

namespace Sys2Proof.Machine

/-- `body(AlignToBeacon)` (R89). -/
def bodyAlignToBeacon (s : State) : State := { rearmSampling (rotateTowardBeacon s) with motion := .converging }

/-- `dispatch(OP_AlignToBeacon)` (R89). -/
def execAlignToBeacon (s : State) : Host.Outcome State Fault Refusal :=
  .next (dispatchKnown s.cfg.opAlignToBeacon bodyAlignToBeacon s)

end Sys2Proof.Machine
end

