-- ==== Sys2Proof/Machine/DriveCommands.lean ====
section
/-! DEFINITION. The five drives (spec/40_dispatcher.md R85 to R88, R90). -/

namespace Sys2Proof.Machine

/-- The shape of R85 to R88: drive, then `MOTION <- Executing`; no watchdog. -/
def bodyDrive (d : Percent) (h : Heading) (s : State) : State := { drive d h s with motion := .executing }

/-- `dispatch(OP_DriveForwardHalf)` (R85). -/
def execDriveForwardHalf (s : State) : Host.Outcome State Fault Refusal :=
  .next (dispatchKnown s.cfg.opDriveForwardHalf (bodyDrive halfDuty .forward) s)

/-- `dispatch(OP_DriveForwardFull)` (R86). -/
def execDriveForwardFull (s : State) : Host.Outcome State Fault Refusal :=
  .next (dispatchKnown s.cfg.opDriveForwardFull (bodyDrive fullDuty .forward) s)

/-- `dispatch(OP_DriveReverseHalf)` (R87). -/
def execDriveReverseHalf (s : State) : Host.Outcome State Fault Refusal :=
  .next (dispatchKnown s.cfg.opDriveReverseHalf (bodyDrive halfDuty .reverse) s)

/-- `dispatch(OP_DriveReverseFull)` (R88). -/
def execDriveReverseFull (s : State) : Host.Outcome State Fault Refusal :=
  .next (dispatchKnown s.cfg.opDriveReverseFull (bodyDrive fullDuty .reverse) s)

/-- `body(DriveToLine)` (R90): enable the line sensor, drive forward at full duty. -/
def bodyDriveToLine (s : State) : State := bodyDrive fullDuty .forward { s with lineIe := true }

/-- `dispatch(OP_DriveToLine)` (R90). -/
def execDriveToLine (s : State) : Host.Outcome State Fault Refusal :=
  .next (dispatchKnown s.cfg.opDriveToLine bodyDriveToLine s)

end Sys2Proof.Machine
end

