-- ==== Sys2Proof/Machine/RotateCommands.lean ====
section
/-! DEFINITION. The four rotations (spec/40_dispatcher.md R81 to R84): the only commands that arm the watchdog
(spec/41_watchdog.md R110). -/

namespace Sys2Proof.Machine

/-- The shape of R81 to R84: arm the watchdog, start the rotation, `MOTION <- Executing`. -/
def bodyRotate (timeoutMs : Nat) (r : Rotation) (s : State) : State :=
  { startRotation r (wdtArm timeoutMs s) with motion := .executing }

/-- `dispatch(OP_RotateCW90)` (R81). -/
def execRotateCW90 (s : State) : Host.Outcome State Fault Refusal :=
  .next (dispatchKnown s.cfg.opRotateCW90 (bodyRotate s.cfg.t90Ms .cw) s)

/-- `dispatch(OP_RotateCW45)` (R82). -/
def execRotateCW45 (s : State) : Host.Outcome State Fault Refusal :=
  .next (dispatchKnown s.cfg.opRotateCW45 (bodyRotate s.cfg.t45Ms .cw) s)

/-- `dispatch(OP_RotateCCW90)` (R83). -/
def execRotateCCW90 (s : State) : Host.Outcome State Fault Refusal :=
  .next (dispatchKnown s.cfg.opRotateCCW90 (bodyRotate s.cfg.t90Ms .ccw) s)

/-- `dispatch(OP_RotateCCW45)` (R84). -/
def execRotateCCW45 (s : State) : Host.Outcome State Fault Refusal :=
  .next (dispatchKnown s.cfg.opRotateCCW45 (bodyRotate s.cfg.t45Ms .ccw) s)

end Sys2Proof.Machine
end

