-- ==== Sys2Proof/Machine/StopCommands.lean ====
section
/-! DEFINITION. The commands that stop, and the byte that is no command: `Stop`, `EndRun`, `NOCMD`
(spec/40_dispatcher.md R80, R91, R77). -/

namespace Sys2Proof.Machine

/-- `body(Stop)` (R80). -/
def bodyStop (s : State) : State := { stop .cmd s with motion := .idle }

/-- `dispatch(OP_Stop)` (R76, R80). -/
def execStop (s : State) : Host.Outcome State Fault Refusal :=
  .next (dispatchKnown s.cfg.opStop bodyStop s)

/-- `body(EndRun)` (R91): the gate is closed before the request is tested. -/
def bodyEndRun (s : State) : State := { stop .cmd s with motion := .idle, gate := false }

/-- `dispatch(OP_EndRun)` (R76, R91). -/
def execEndRun (s : State) : Host.Outcome State Fault Refusal :=
  .next (dispatchKnown s.cfg.opEndRun bodyEndRun s)

/-- `dispatch(SENTINEL)` (R77): "the step changes no register and emits no event, not even ReqNext". -/
def execNocmd (s : State) : Host.Outcome State Fault Refusal := .next s

end Sys2Proof.Machine
end

