-- ==== Sys2Proof/Machine/Dispatch.lean ====
section
/-! DEFINITION. One arm per row of spec/opcode_table.json: the meaning of a dispatched byte that decodes to it. -/

namespace Sys2Proof.Machine

def exec (i : Instr) (s : State) : Host.Outcome State Fault Refusal :=
  match i with
  | .stop => Sys2Proof.Machine.execStop s
  | .rotateCW90 => Sys2Proof.Machine.execRotateCW90 s
  | .rotateCW45 => Sys2Proof.Machine.execRotateCW45 s
  | .rotateCCW90 => Sys2Proof.Machine.execRotateCCW90 s
  | .rotateCCW45 => Sys2Proof.Machine.execRotateCCW45 s
  | .driveForwardHalf => Sys2Proof.Machine.execDriveForwardHalf s
  | .driveForwardFull => Sys2Proof.Machine.execDriveForwardFull s
  | .driveReverseHalf => Sys2Proof.Machine.execDriveReverseHalf s
  | .driveReverseFull => Sys2Proof.Machine.execDriveReverseFull s
  | .alignToBeacon => Sys2Proof.Machine.execAlignToBeacon s
  | .driveToLine => Sys2Proof.Machine.execDriveToLine s
  | .endRun => Sys2Proof.Machine.execEndRun s
  | .nocmd => Sys2Proof.Machine.execNocmd s

end Sys2Proof.Machine
end

