-- ==== Sys2Proof/WellFormed.lean ====
section
/-! DEFINITION. Well-formedness: the constraints on `Cfg` (spec/00_scope.md R5, spec/30_encoding.md R66), one check
each, and of an instruction under a configuration. The checks that R5 makes on ROT_DUTY, BEACON_DIR and the range
0..255 of the bytes are the types' own. -/

namespace Sys2Proof

/-- `CLOCK_RATE_HZ`: "multiple of 1000; 1000 ≤ value < 2^32". -/
def Cfg.clockOk (c : Cfg) : Bool :=
  decide (c.clockRateHz % 1000 = 0) && decide (1000 ≤ c.clockRateHz) && decide (c.clockRateHz < 2 ^ 32)

/-- `PWM_PERIOD`: "1 ≤ P ≤ 2^16 − 1". -/
def Cfg.periodOk (c : Cfg) : Bool := decide (1 ≤ c.pwmPeriod) && decide (c.pwmPeriod < 2 ^ 16)

/-- `T45_MS` and `T90_MS`: "1 ≤ T45_MS < T90_MS", "T90_MS × TICKS_PER_MS < 2^32". -/
def Cfg.timeoutsOk (c : Cfg) : Bool :=
  decide (1 ≤ c.t45Ms) && decide (c.t45Ms < c.t90Ms) && decide (c.t90Ms * Machine.ticksPerMs c < 2 ^ 32)

/-- `TARGET_HZ`, `TOL_PCT`: "1 ≤ value; HI_HZ < 2^32", "0 ≤ value ≤ 100". -/
def Cfg.bandOk (c : Cfg) : Bool :=
  decide (1 ≤ c.targetHz) && decide (c.tolPct ≤ 100) && decide (Machine.hiHz c < 2 ^ 32)

/-- `WARMUP`: "1 ≤ value; (WARMUP + 1) × HZ_CEILING < 2^32". -/
def Cfg.warmupOk (c : Cfg) : Bool :=
  decide (1 ≤ c.warmup) && decide ((c.warmup + 1) * c.hzCeiling < 2 ^ 32)

/-- `HZ_CEILING`: "HI_HZ ≤ value < 2^32". -/
def Cfg.ceilingOk (c : Cfg) : Bool := decide (Machine.hiHz c ≤ c.hzCeiling) && decide (c.hzCeiling < 2 ^ 32)

/-- No two bytes of a list are equal. -/
def distinctBytes : List Byte → Bool
  | [] => true
  | b :: bs => !(bs.contains b) && distinctBytes bs

/-- The 12 `OP_*` values and `SENTINEL` are pairwise distinct (spec/30_encoding.md R66). -/
def Cfg.opcodesOk (c : Cfg) : Bool := distinctBytes (Instr.all.map (encode c))

/-- The configurations the rules are stated for (spec/00_scope.md R5; spec/93_implementation_defined.md U19). -/
def Cfg.wf (c : Cfg) : Bool :=
  c.clockOk && c.periodOk && c.timeoutsOk && c.bandOk && c.warmupOk && c.ceilingOk && c.opcodesOk

/-- An instruction is well formed under a configuration when its byte is no other instruction's byte. It has no
fields to check (spec/30_encoding.md R64). -/
def Instr.wf (c : Cfg) (i : Instr) : Bool :=
  Instr.all.all fun j => decide (j = i) || decide (encode c j ≠ encode c i)

end Sys2Proof
end

