-- ==== Sys2Proof/Machine/Agents.lean ====
section
/-! DEFINITION. The steps of the agents (spec/00_scope.md R11): `dispatch` (spec/40_dispatcher.md R76), `line_done`
(R96), `reset` (spec/70_reset_and_hazards.md R183), and the one function that performs whichever step is next. -/

namespace Sys2Proof.Machine

/-- `dispatch(b)` (R76): a byte of the table runs its instruction, every other byte is an unknown opcode (R92). -/
def dispatch (b : Byte) (s : State) : Host.Outcome State Fault Refusal :=
  match decode s.cfg b with
  | .instr i => exec i s
  | .unknownOpcode _ => .next (dispatchUnknown s)

/-- `line_done()` (R96). -/
def lineDone (s : State) : State :=
  if s.lineIe then { stop .lineDone { s with lineIe := false } with motion := .idle } else s

/-- `reset()` (spec/70_reset_and_hazards.md R183): every register and the trace; "Cfg is not state and is not
changed by reset" (R184), nor are the steps the agents take afterwards (notes/assumptions/16.md). -/
def performReset (s : State) : State := { State.resetWith s.cfg with schedule := s.schedule }

/-- One step of one agent, atomic (spec/00_scope.md R11, R13; DEDUCED: notes/assumptions/12.md). A step that is not enabled is refused (U18), as is a configuration
that violates R5 (U19): notes/assumptions/7.md and 8.md. -/
def perform (k : ScheduledStep) (s : State) : Host.Outcome State Fault Refusal :=
  if s.cfg.wf then
    match k with
    | .tick => .next (tick s)
    | .dispatch b => dispatch b s
    | .wdtIsr => if wdtIsrEnabled s then .next (wdtIsr s) else .refused .wdtIsrNotEnabled
    | .edge => .next (edge s)
    | .handleContinue =>
      if handleContinueEnabled s then .next (handleContinue s) else .refused .handleContinueNotEnabled
    | .lineDone => .next (lineDone s)
    | .adSample v => .next (adSample v s)
    | .reset => .next (performReset s)
  else .refused .illFormedConfig

/-- The step that is taken next: the head of the schedule, and a clock tick where the schedule is empty ("The MCC
never halts", spec/70_reset_and_hazards.md R204; `tick` is always enabled, R190). DESIGN CHOICE, unsafe for a claim
about an empty schedule: notes/assumptions/2.md. -/
def nextStep (s : State) : ScheduledStep := s.schedule.headD .tick

/-- The state with its next step taken off the schedule. -/
def popSchedule (s : State) : State := { s with schedule := s.schedule.tail }

/-- The state in which the link presents byte `b` next (spec/00_scope.md R15; notes/assumptions/3.md). -/
def presentByte (b : Byte) (s : State) : State := { s with schedule := .dispatch b :: s.schedule }

end Sys2Proof.Machine
end

