-- ==== Sys2Proof/Machine/Step.lean ====
section
/-! DEFINITION. The step function: take the next step off the schedule and perform it (spec/00_scope.md R12). -/

namespace Sys2Proof.Machine

/-- One atomic step of the MCC. -/
def step (s : State) : Host.Outcome State Fault Refusal := perform (nextStep s) (popSchedule s)

/-- `s` with the link about to present the byte whose bits are `w`: the MCC fetches nothing (spec/10_state.md R46,
spec/20_memory.md R62), so this stands for the link's next `cmd_valid` pulse. DESIGN CHOICE, safe:
notes/assumptions/3.md. -/
def State.withFetchWord (s : State) (nbits w : Nat) : State := presentByte (tableByte nbits w) s

end Sys2Proof.Machine
end

