-- ==== Sys2Proof/Safety.lean ====
section
/-! DEFINITION. The terms the statements use: runs over a list of steps, the invariants of the reachable states
(spec/10_state.md R49, R50; spec/44_pwm_actuation.md R158; spec/43_frequency_convergence.md R124), the write sets of
the steps (spec/10_state.md R51), executions and fairness (spec/00_scope.md R12, spec/60_exceptions.md R176). -/

namespace Sys2Proof.Machine

/-- `n` steps of the machine, stopping at the first step that is refused. -/
def runFor : Nat → State → Host.Outcome State Fault Refusal
  | 0, s => .next s
  | n + 1, s =>
    match step s with
    | .next s' => runFor n s'
    | .fault r => .fault r
    | .refused r => .refused r

/-- A finite run: the steps of a list performed in order (spec/20_memory.md R58). -/
def performAll : List ScheduledStep → State → Host.Outcome State Fault Refusal
  | [], s => .next s
  | k :: ks, s =>
    match perform k s with
    | .next s' => performAll ks s'
    | .fault r => .fault r
    | .refused r => .refused r

/-- A known command: one of the 12, not the sentinel and not an unknown opcode (spec/00_scope.md R16). -/
def isKnownByte (c : Cfg) (b : Byte) : Bool :=
  match decode c b with
  | .instr i => decide (i ≠ .nocmd)
  | .unknownOpcode _ => false

/-- The four bytes that arm the watchdog (spec/41_watchdog.md R110). -/
def isRotateByte (c : Cfg) (b : Byte) : Bool :=
  decide (b = c.opRotateCW90) || decide (b = c.opRotateCW45) || decide (b = c.opRotateCCW90)
    || decide (b = c.opRotateCCW45)

/-- The step dispatches a known command. -/
def dispatchesKnown (c : Cfg) : ScheduledStep → Bool
  | .dispatch b => isKnownByte c b
  | _ => false

/-- The step dispatches a rotation. -/
def dispatchesRotate (c : Cfg) : ScheduledStep → Bool
  | .dispatch b => isRotateByte c b
  | _ => false

/-- The step dispatches a byte that is not the sentinel. -/
def dispatchesNonSentinel (c : Cfg) : ScheduledStep → Bool
  | .dispatch b => decide (b ≠ c.sentinel)
  | _ => false

/-- The number of `ReqNext` events a step must emit in a state with gate `gate` (spec/40_dispatcher.md R98). -/
def requestsOf (c : Cfg) (gate : Bool) : ScheduledStep → Nat
  | .dispatch b => if b ≠ c.sentinel ∧ b ≠ c.opEndRun ∧ gate = true then 1 else 0
  | _ => 0

/-- The trace after the last line of a dispatch (spec/40_dispatcher.md R93). -/
def requestTrace (gate : Bool) (tr : List TraceEvent) : List TraceEvent := if gate then tr ++ [.reqNext] else tr

/-- The number of `Stop(WdtFire)` events so far (spec/41_watchdog.md R108). -/
def fireCount (s : State) : Nat := s.trace.count (.stop .wdtFire)

/-- The number of `stop()` invocations so far, whatever their cause. -/
def stopCount (s : State) : Nat :=
  s.trace.countP fun e => match e with
    | .stop _ => true
    | _ => false

/-- The compare state that an effective duty `e` gives, from the old threshold (spec/44_pwm_actuation.md R145). -/
def PwmPairFor (c : Cfg) (e : Nat) (oldCmp : Word16) (mode : PwmMode) (cmp : Word16) : Prop :=
  if e = 0 then mode = .forcedLow ∧ cmp = oldCmp
  else if e = 100 then mode = .forcedHigh ∧ cmp = oldCmp
  else mode = .compare ∧ cmp.toNat = c.pwmPeriod - e * c.pwmPeriod / 100

/-- The effective duty of a state as a number (R148). -/
def effectiveOf (s : State) : Nat := s.actDuty.val * s.scale.val / 100

/-- What a rotation does, in the terms of spec/40_dispatcher.md R81: from every state of a well-formed configuration
it completes, with the watchdog armed for `ms` milliseconds, `DIR` at `lines`, so that the output lines `dir_l` and
`dir_r` are `left` and `right`, and the duty at `ROT_DUTY`; every register not named keeps its value. -/
def RotatesTo (i : Instr) (ms : Cfg → Nat) (lines : BitVec 2) (left right : Bool) (op : Cfg → Byte) : Prop :=
  ∀ s : State, s.cfg.wf = true → ∃ t : State, exec i s = .next t
    ∧ t.wdtTimeoutMs.toNat = ms s.cfg
    ∧ t.wdtCount.toNat = ms s.cfg * (s.cfg.clockRateHz / 1000)
    ∧ dirL t = left ∧ dirR t = right
    ∧ PwmPairFor s.cfg (s.cfg.rotDuty.val * s.scale.val / 100) s.pwmCmp t.pwmMode t.pwmCmp
    ∧ t = { s with
        wdtArmed := true, wdtPend := false, wdtTimeoutMs := t.wdtTimeoutMs, wdtCount := t.wdtCount
        capIe := false, detState := .idle, contPend := false, lineIe := false
        actDuty := s.cfg.rotDuty, dir := lines, pwmMode := t.pwmMode, pwmCmp := t.pwmCmp
        motion := .executing, cmdReg := op s.cfg, trace := requestTrace s.gate s.trace }

/-- What a drive does, in the terms of spec/40_dispatcher.md R85: no watchdog, duty `duty`, `DIR` at
`lines`, so that both output lines are `reversed`, the line sensor's enable at `line`; every register not named keeps
its value. -/
def DrivesTo (i : Instr) (duty : Percent) (lines : BitVec 2) (reversed line : Bool) (op : Cfg → Byte) : Prop :=
  ∀ s : State, s.cfg.wf = true → ∃ t : State, exec i s = .next t
    ∧ dirL t = reversed ∧ dirR t = reversed
    ∧ PwmPairFor s.cfg (duty.val * s.scale.val / 100) s.pwmCmp t.pwmMode t.pwmCmp
    ∧ t = { s with
        wdtArmed := false, wdtPend := false, wdtCount := 0
        capIe := false, detState := .idle, contPend := false, lineIe := line
        actDuty := duty, dir := lines, pwmMode := t.pwmMode, pwmCmp := t.pwmCmp
        motion := .executing, cmdReg := op s.cfg, trace := requestTrace s.gate s.trace }

/-- The commands that set `MOTION` to Executing: the rotations, the drives, the drive to the line
(spec/40_dispatcher.md R100). -/
def runsUntilEnded : Instr → Bool
  | .stop | .endRun | .nocmd | .alignToBeacon => false
  | .rotateCW90 | .rotateCW45 | .rotateCCW90 | .rotateCCW45 => true
  | .driveForwardHalf | .driveForwardFull | .driveReverseHalf | .driveReverseFull | .driveToLine => true

/-- The step that ends such a command by itself; a drive has none (R100). -/
def ownEnd : Instr → Option ScheduledStep
  | .rotateCW90 | .rotateCW45 | .rotateCCW90 | .rotateCCW45 => some .wdtIsr
  | .driveToLine => some .lineDone
  | .driveForwardHalf | .driveForwardFull | .driveReverseHalf | .driveReverseFull => none
  | .stop | .endRun | .nocmd | .alignToBeacon => none

/-- The invariants of the reachable states: the ranges of spec/10_state.md R49 and the couplings R50(a) to (h). The
ranges of `MOTION`, `PWM_MODE`, `DET_STATE`, `ACT_DUTY` ≤ 100 and `SCALE` ≤ 100 are the types' own. R50(i) speaks of
the past and is a statement about steps. -/
structure CouplingInv (s : State) : Prop where
  /-- The configuration is one the rules are stated for. -/
  config : s.cfg.wf = true
  /-- R49: `ACT_DUTY` ∈ {0, HALF_DUTY, FULL_DUTY, ROT_DUTY}. -/
  dutyRange : s.actDuty = 0 ∨ s.actDuty = 50 ∨ s.actDuty = 100 ∨ s.actDuty = s.cfg.rotDuty
  /-- R49: 0 ≤ `PWM_CNT` ≤ P − 1. -/
  cntRange : s.pwmCnt.toNat < s.cfg.pwmPeriod
  /-- R49: 1 ≤ `PWM_CMP` ≤ P. -/
  cmpRange : 1 ≤ s.pwmCmp.toNat ∧ s.pwmCmp.toNat ≤ s.cfg.pwmPeriod
  /-- R50(a), first half. -/
  captureSearching : s.capIe = true ↔ s.detState = .searching
  /-- R50(a), second half. -/
  searchingConverging : s.detState = .searching ↔ s.motion = .converging
  /-- R50(b). -/
  convergedIdle : s.detState = .converged → s.motion = .idle ∧ s.capIe = false
  /-- R50(c). -/
  pendingContinue : s.contPend = true → s.motion = .converging
  /-- R50(d). -/
  armed : s.wdtArmed = true → s.wdtPend = false ∧ 1 ≤ s.wdtCount.toNat ∧ s.motion = .executing
    ∧ isRotateByte s.cfg s.cmdReg = true
  /-- R50(e). -/
  fired : s.wdtPend = true → s.wdtArmed = false ∧ s.wdtCount = 0 ∧ s.motion = .executing
    ∧ isRotateByte s.cfg s.cmdReg = true
  /-- R50(f). -/
  lineEnabled : s.lineIe = true → s.motion = .executing ∧ s.cmdReg = s.cfg.opDriveToLine
  /-- R50(g). -/
  idleStopped : s.motion = .idle → s.actDuty = 0 ∧ s.dir = 0b00 ∧ s.pwmMode = .forcedLow
  /-- R50(h), with the old threshold the present one. -/
  compareState : PwmPairFor s.cfg (effectiveOf s) s.pwmCmp s.pwmMode s.pwmCmp

/-- The stop state with nothing left that could end it: nothing armed, pending or enabled
(spec/40_dispatcher.md R99). -/
structure StoppedState (s : State) : Prop where
  duty : s.actDuty = 0
  lines : s.dir = 0b00
  output : s.pwmMode = .forcedLow
  motion : s.motion = .idle
  disarmed : s.wdtArmed = false
  notFired : s.wdtPend = false
  captureOff : s.capIe = false
  noContinue : s.contPend = false
  lineOff : s.lineIe = false

/-- The write sets of the steps, register by register (spec/10_state.md R51, spec/20_memory.md R61): a step that is not
among a register's writers leaves it. `k` is the step, taken from `s` to `t`; `reset` writes everything. -/
structure OwnWrites (k : ScheduledStep) (s t : State) : Prop where
  /-- The free-running counters: `tick`. -/
  counters : k ≠ .tick → t.pwmCnt = s.pwmCnt ∧ t.capTimer = s.capTimer
  /-- The CaptureSample registers: `edge`. -/
  captureSample : k ≠ .edge → t.lastEdge = s.lastEdge ∧ t.thisEdge = s.thisEdge ∧ t.period = s.period
  /-- The two frequencies of the estimate: `edge`. -/
  frequencies : k ≠ .edge → t.instantHz = s.instantHz ∧ t.averagedHz = s.averagedHz
  /-- The sum and the count of the estimate: `edge`, `handle_continue`, `AlignToBeacon`. -/
  sumAndCount : k ≠ .edge → k ≠ .handleContinue → k ≠ .dispatch s.cfg.opAlignToBeacon →
    t.runningSumHz = s.runningSumHz ∧ t.sampleCount = s.sampleCount
  /-- The capture enable, the detector's state and the self-event: `edge`, `handle_continue`, a known command. -/
  detector : k ≠ .edge → k ≠ .handleContinue → dispatchesKnown s.cfg k = false →
    t.capIe = s.capIe ∧ t.detState = s.detState ∧ t.contPend = s.contPend
  /-- The watchdog's timeout: a rotation. -/
  timeout : dispatchesRotate s.cfg k = false → t.wdtTimeoutMs = s.wdtTimeoutMs
  /-- The countdown: `tick`, a known command. -/
  countdown : k ≠ .tick → dispatchesKnown s.cfg k = false → t.wdtArmed = s.wdtArmed ∧ t.wdtCount = s.wdtCount
  /-- Nothing arms the watchdog but a rotation (spec/41_watchdog.md R110). -/
  arming : dispatchesRotate s.cfg k = false → t.wdtArmed = true → s.wdtArmed = true
  /-- The pending expiry: `tick`, `wdt_isr`, a known command. -/
  expiry : k ≠ .tick → k ≠ .wdtIsr → dispatchesKnown s.cfg k = false → t.wdtPend = s.wdtPend
  /-- Nothing but `tick` sets the pending expiry. -/
  expires : k ≠ .tick → t.wdtPend = true → s.wdtPend = true
  /-- The line enable: `line_done`, a known command. -/
  lineEnable : k ≠ .lineDone → dispatchesKnown s.cfg k = false → t.lineIe = s.lineIe
  /-- Nothing sets the line enable but `DriveToLine`. -/
  lineSet : k ≠ .dispatch s.cfg.opDriveToLine → t.lineIe = true → s.lineIe = true
  /-- `CMD_REG`: a known command. -/
  command : dispatchesKnown s.cfg k = false → t.cmdReg = s.cmdReg
  /-- `GATE`: `EndRun`. -/
  gate : k ≠ .dispatch s.cfg.opEndRun → t.gate = s.gate
  /-- `SCALE`: `ad_sample`. -/
  scale : (∀ v, k ≠ .adSample v) → t.scale = s.scale
  /-- `MOTION`: `wdt_isr`, `edge`, `line_done`, a known command. -/
  motion : k ≠ .wdtIsr → k ≠ .edge → k ≠ .lineDone → dispatchesKnown s.cfg k = false → t.motion = s.motion
  /-- The actuator request: as `MOTION`, and `handle_continue`. -/
  request : k ≠ .wdtIsr → k ≠ .edge → k ≠ .lineDone → k ≠ .handleContinue → dispatchesKnown s.cfg k = false →
    t.actDuty = s.actDuty ∧ t.dir = s.dir
  /-- The PWM mode: as the actuator request, and `ad_sample`. -/
  pwmMode : k ≠ .wdtIsr → k ≠ .edge → k ≠ .lineDone → k ≠ .handleContinue → (∀ v, k ≠ .adSample v) →
    dispatchesKnown s.cfg k = false → t.pwmMode = s.pwmMode
  /-- The PWM threshold: `handle_continue`, `ad_sample`, a known command; the paths that only stop leave it. -/
  pwmThreshold : k ≠ .handleContinue → (∀ v, k ≠ .adSample v) → dispatchesKnown s.cfg k = false →
    t.pwmCmp = s.pwmCmp
  /-- The trace: `wdt_isr`, `edge`, `line_done`, the dispatch of a byte that is not the sentinel. -/
  trace : k ≠ .wdtIsr → k ≠ .edge → k ≠ .lineDone → dispatchesNonSentinel s.cfg k = false → t.trace = s.trace

/-- The actuator as a table indexed by (`MOTION`, `CMD_REG`) (spec/44_pwm_actuation.md R158), with the pairs of
spec/30_encoding.md R70. -/
def ActuatorTable (s : State) : Prop :=
  match s.motion with
  | .idle => s.actDuty = 0 ∧ s.dir = 0b00
  | .converging => s.actDuty = s.cfg.rotDuty ∧ s.dir = dirCode (rotationDirection s.cfg.beaconDir)
  | .executing => ∃ i row, encode s.cfg i = s.cmdReg ∧ commandRow s.cfg i = some row
      ∧ s.actDuty = row.duty ∧ s.dir = row.dirLines

/-- The bound on the running sum (spec/43_frequency_convergence.md R124): during the warm-up at most `HZ_CEILING` for
each accepted sample, after a test in an open window zero, and never more than `(WARMUP + 1) × HZ_CEILING`. -/
structure SumBound (s : State) : Prop where
  warmup : s.capIe = true → s.sampleCount.toNat ≤ s.cfg.warmup →
    s.runningSumHz.toNat ≤ s.sampleCount.toNat * s.cfg.hzCeiling
  tested : s.capIe = true → s.cfg.warmup < s.sampleCount.toNat → s.runningSumHz = 0
  total : s.runningSumHz.toNat ≤ (s.cfg.warmup + 1) * s.cfg.hzCeiling

/-- Every accepted sample of the run is out of band, and only the clock, the beacon, the A/D and the service loop's
own event act (spec/43_frequency_convergence.md R136). -/
def OutOfBandRun : List ScheduledStep → State → Prop
  | [], _ => True
  | k :: ks, s =>
    (match k with
      | .tick => True
      | .handleContinue => True
      | .adSample _ => True
      | .edge => s.capIe = true → isGlitch s.cfg (wrapDiff s.capTimer s.thisEdge) = false →
          inBand s.cfg (periodHz s.cfg (wrapDiff s.capTimer s.thisEdge)) = false
      | _ => False)
    ∧ ∀ s', perform k s = .next s' → OutOfBandRun ks s'

/-- An infinite execution from reset (spec/00_scope.md R12): `ks n` is the step taken from state `e n`. -/
def IsExecution (c : Cfg) (e : Nat → State) (ks : Nat → ScheduledStep) : Prop :=
  e 0 = State.resetWith c ∧ ∀ n, perform (ks n) (e n) = .next (e (n + 1))

/-- Fairness (spec/60_exceptions.md R176): neither deferred step stays enabled for ever. Taking it disables it, so
"eventually taken or disabled" is this. DEDUCED, safe: notes/assumptions/13.md. -/
def Fair (e : Nat → State) : Prop :=
  ∀ n, (∃ m, n ≤ m ∧ (e m).wdtPend = false) ∧ (∃ m, n ≤ m ∧ (e m).contPend = false)

/-- The registers that R168 says `ad_sample` commutes on: actuator request, motion and enables. -/
def SameControl (s t : State) : Prop :=
  s.actDuty = t.actDuty ∧ s.dir = t.dir ∧ s.motion = t.motion ∧ s.gate = t.gate ∧ s.lineIe = t.lineIe
    ∧ s.contPend = t.contPend ∧ s.wdtArmed = t.wdtArmed ∧ s.wdtPend = t.wdtPend ∧ s.capIe = t.capIe

end Sys2Proof.Machine
end

