-- ==== Sys2Proof/Certificates/Slice0/Obligations.lean ====
section
/-! DEFINITION. The statements for the provers. Each docstring says which rules of spec/ it formalises. -/

open Sys2Proof Sys2Proof.Machine

/-! ## Encoding (spec/30_encoding.md) -/

/-- Decoding the byte of a well-formed instruction gives it back, for every configuration (R65 to R68). -/
def Obligations.DecodeInvertsEncode : Prop :=
  ∀ (c : Cfg) (i : Instr), i.wf c = true → decode c (encode c i) = .instr i

/-- A byte that decodes to an instruction is that instruction's byte: no bit of the byte is dropped (R65, R74). -/
def Obligations.EncodeInvertsDecode : Prop :=
  ∀ (c : Cfg) (b : Byte) (i : Instr), decode c b = .instr i → encode c i = b

/-- The decode function in the order of R68: the sentinel first, then the names, everything else unknown; at most one
name applies. -/
def Obligations.DecodeFollowsItsOrder : Prop :=
  ∀ (c : Cfg) (b : Byte),
    (b = c.sentinel → decode c b = .instr .nocmd)
      ∧ (c.wf = true → ∀ i : Instr, encode c i = b → decode c b = .instr i)
      ∧ ((∀ i : Instr, encode c i ≠ b) → decode c b = .unknownOpcode b)
      ∧ (c.wf = true → ∀ i j : Instr, encode c i = b → encode c j = b → i = j)

/-- The unknown opcodes are exactly the bytes that are neither the sentinel nor a command's, and with the defaults
the 243 values 0x0C to 0xFE (R69). -/
def Obligations.UnknownOpcodesAreTheRest : Prop :=
  (∀ (c : Cfg) (b : Byte), decode c b = .unknownOpcode b ↔ ∀ i : Instr, encode c i ≠ b)
    ∧ ∀ b : Byte, decode Cfg.reference b = .unknownOpcode b ↔ 0x0C ≤ b.toNat ∧ b.toNat ≤ 0xFE

/-- The default bytes, written out from the table of R65 and from R67, decode to the commands they stand for. -/
def Obligations.DefaultBytesDecode : Prop :=
  decode Cfg.reference 0b00000000 = .instr .stop
    ∧ decode Cfg.reference 0b00000001 = .instr .rotateCW90
    ∧ decode Cfg.reference 0b00000100 = .instr .rotateCCW45
    ∧ decode Cfg.reference 0b00000110 = .instr .driveForwardFull
    ∧ decode Cfg.reference 0b00001001 = .instr .alignToBeacon
    ∧ decode Cfg.reference 0b00001010 = .instr .driveToLine
    ∧ decode Cfg.reference 0b00001011 = .instr .endRun
    ∧ decode Cfg.reference 0b11111111 = .instr .nocmd

/-! ## The step (spec/00_scope.md R11 to R13, spec/40_dispatcher.md R76) -/

/-- When the link's byte is next and decodes to instruction `i`, the step takes it off the schedule and is `exec i`
(R11, R76). That the next step stands in a schedule is the model's choice (notes/assumptions/1.md). -/
def Obligations.StepRunsDecodedInstruction : Prop :=
  ∀ (s : State) (b : Byte) (rest : List ScheduledStep) (i : Instr), s.cfg.wf = true →
    s.schedule = .dispatch b :: rest → decode s.cfg b = .instr i →
    step s = exec i { s with schedule := rest }

/-- An unknown opcode writes no register and only asks for the next command (R92). -/
def Obligations.UnknownOpcodeOnlyRequests : Prop :=
  ∀ (s : State) (b : Byte), s.cfg.wf = true → decode s.cfg b = .unknownOpcode b →
    perform (.dispatch b) s = .next { s with trace := requestTrace s.gate s.trace }

/-- Stepping the machine performs its schedule in order, one entry a step, and ticks when nothing is scheduled: the
model's choices (notes/assumptions/1.md, 2.md). -/
def Obligations.StepsPerformTheSchedule : Prop :=
  (∀ (ks rest : List ScheduledStep) (s : State),
      runFor ks.length { s with schedule := ks ++ rest } = performAll ks { s with schedule := rest })
    ∧ ∀ (n : Nat) (s : State), s.cfg.wf = true → s.schedule = [] → runFor n s = .next (tickTimes n s)

/-- No step ever faults, and with a well-formed configuration the only refusals are the two steps that are not
enabled (spec/60_exceptions.md R161; spec/93_implementation_defined.md U18). That these two are refused is the
model's choice (notes/assumptions/7.md), as is an empty fault type (notes/assumptions/9.md). -/
def Obligations.EveryEnabledStepCompletes : Prop :=
  ∀ (k : ScheduledStep) (s : State), s.cfg.wf = true →
    (∃ s', perform k s = .next s')
      ∨ (k = .wdtIsr ∧ s.wdtPend = false ∧ perform k s = .refused .wdtIsrNotEnabled)
      ∨ (k = .handleContinue ∧ s.contPend = false ∧ perform k s = .refused .handleContinueNotEnabled)

/-! ## The instructions (spec/40_dispatcher.md R77 to R91) -/

/-- `Stop` (R80): the actuator in the stop state, everything live retired, `Stop(Cmd)` and then the request; no
other register changes. -/
def Obligations.StopCommandResult : Prop :=
  ∀ s : State, exec .stop s = .next { s with
    actDuty := 0, dir := 0b00, pwmMode := .forcedLow, motion := .idle, cmdReg := s.cfg.opStop
    wdtArmed := false, wdtCount := 0, wdtPend := false
    capIe := false, detState := .idle, contPend := false, lineIe := false
    trace := requestTrace s.gate (s.trace ++ [.stop .cmd]) }

/-- `EndRun` (R91): as `Stop`, the gate closed, and no request. -/
def Obligations.EndRunCommandResult : Prop :=
  ∀ s : State, exec .endRun s = .next { s with
    actDuty := 0, dir := 0b00, pwmMode := .forcedLow, motion := .idle, cmdReg := s.cfg.opEndRun
    gate := false, wdtArmed := false, wdtCount := 0, wdtPend := false
    capIe := false, detState := .idle, contPend := false, lineIe := false
    trace := s.trace ++ [.stop .cmd] }

/-- `NOCMD` (R77): no register changes and nothing is emitted, in every state; only the sentinel byte is filtered. -/
def Obligations.NocmdChangesNothing : Prop :=
  (∀ s : State, exec .nocmd s = .next s)
    ∧ (∀ s : State, s.cfg.wf = true → perform (.dispatch s.cfg.sentinel) s = .next s)
    ∧ ∀ (c : Cfg) (b : Byte), decode c b = .instr .nocmd → b = c.sentinel

/-- The four rotations (R81 to R84), each with its timeout, its direction and the output lines of that direction
(spec/10_state.md R25, spec/44_pwm_actuation.md R151): clockwise, left forward and right reverse. -/
def Obligations.RotateCommandsResult : Prop :=
  RotatesTo .rotateCW90 (fun c => c.t90Ms) 0b10 false true (fun c => c.opRotateCW90)
    ∧ RotatesTo .rotateCW45 (fun c => c.t45Ms) 0b10 false true (fun c => c.opRotateCW45)
    ∧ RotatesTo .rotateCCW90 (fun c => c.t90Ms) 0b01 true false (fun c => c.opRotateCCW90)
    ∧ RotatesTo .rotateCCW45 (fun c => c.t45Ms) 0b01 true false (fun c => c.opRotateCCW45)

/-- The four drives (R85 to R88), each with its duty, its direction and the output lines of that direction. -/
def Obligations.DriveCommandsResult : Prop :=
  DrivesTo .driveForwardHalf 50 0b00 false false (fun c => c.opDriveForwardHalf)
    ∧ DrivesTo .driveForwardFull 100 0b00 false false (fun c => c.opDriveForwardFull)
    ∧ DrivesTo .driveReverseHalf 50 0b11 true false (fun c => c.opDriveReverseHalf)
    ∧ DrivesTo .driveReverseFull 100 0b11 true false (fun c => c.opDriveReverseFull)

/-- `DriveToLine` (R90): a full-duty forward drive with the line sensor enabled. -/
def Obligations.DriveToLineCommandResult : Prop :=
  DrivesTo .driveToLine 100 0b00 false true (fun c => c.opDriveToLine)

/-- `AlignToBeacon` (R89): the rotation toward the beacon, a new sampling window, no watchdog; the time stamps, the
instantaneous and the averaged frequency keep their values. -/
def Obligations.AlignToBeaconCommandResult : Prop :=
  ∀ s : State, s.cfg.wf = true → ∃ t : State, exec .alignToBeacon s = .next t
    ∧ dirL t = decide (s.cfg.beaconDir = .ccw) ∧ dirR t = decide (s.cfg.beaconDir = .cw)
    ∧ PwmPairFor s.cfg (s.cfg.rotDuty.val * s.scale.val / 100) s.pwmCmp t.pwmMode t.pwmCmp
    ∧ t = { s with
        wdtArmed := false, wdtPend := false, wdtCount := 0, contPend := false, lineIe := false
        capIe := true, detState := .searching, sampleCount := 0, runningSumHz := 0
        actDuty := s.cfg.rotDuty, dir := if s.cfg.beaconDir = .cw then 0b10 else 0b01
        pwmMode := t.pwmMode, pwmCmp := t.pwmCmp
        motion := .converging, cmdReg := s.cfg.opAlignToBeacon, trace := requestTrace s.gate s.trace }

/-- Every command agrees with its row of the table of spec/30_encoding.md R70. -/
def Obligations.CommandsAgreeWithTable : Prop :=
  ∀ (s t : State) (i : Instr) (row : CommandRow), s.cfg.wf = true → commandRow s.cfg i = some row →
    exec i s = .next t →
    t.actDuty = row.duty ∧ t.dir = row.dirLines ∧ t.capIe = row.enablesCapture ∧ t.lineIe = row.enablesLine
      ∧ t.gate = (s.gate && !row.clearsGate) ∧ t.wdtArmed = row.timeoutMs.isSome
      ∧ (∀ ms, row.timeoutMs = some ms → t.wdtTimeoutMs.toNat = ms)
      ∧ (row.timeoutMs = none → t.wdtTimeoutMs = s.wdtTimeoutMs)

/-- The life of a command (R100): a rotation, a drive and a drive to the line go on, unstopped and with the same
request to the actuator, until their own end (`wdt_isr`, none, `line_done`), a known command or a reset. -/
def Obligations.CommandLivesUntilItsEnd : Prop :=
  ∀ (i : Instr) (ks : List ScheduledStep) (s t u : State), s.cfg.wf = true → runsUntilEnded i = true →
    exec i s = .next t →
    (∀ k ∈ ks, dispatchesKnown s.cfg k = false ∧ k ≠ .reset ∧ ownEnd i ≠ some k) → performAll ks t = .next u →
    u.motion = .executing ∧ u.actDuty = t.actDuty ∧ u.dir = t.dir ∧ stopCount u = stopCount s

/-! ## The other agents' steps -/

/-- `wdt_isr` (spec/41_watchdog.md R107): enabled exactly when an expiry is pending, and then it stops whatever the
other registers hold. That it is refused where it is not enabled is notes/assumptions/7.md. -/
def Obligations.WatchdogHandlerResult : Prop :=
  ∀ s : State, s.cfg.wf = true →
    (s.wdtPend = true → perform .wdtIsr s = .next { s with
      wdtPend := false, actDuty := 0, dir := 0b00, pwmMode := .forcedLow, motion := .idle
      trace := s.trace ++ [.stop .wdtFire] })
    ∧ (s.wdtPend = false → perform .wdtIsr s = .refused .wdtIsrNotEnabled)

/-- A tick (spec/70_reset_and_hazards.md R190): the PWM counter reloads after 0, the time base wraps, and an armed
watchdog counts down and expires (spec/41_watchdog.md R105). -/
def Obligations.TickResult : Prop :=
  ∀ s : State, s.cfg.wf = true → ∃ t : State, perform .tick s = .next t
    ∧ t.pwmCnt.toNat = (if s.pwmCnt.toNat = 0 then s.cfg.pwmPeriod - 1 else s.pwmCnt.toNat - 1)
    ∧ t.capTimer.toNat = (s.capTimer.toNat + 1) % 2 ^ 32
    ∧ (s.wdtArmed = false →
        t.wdtCount = s.wdtCount ∧ t.wdtArmed = false ∧ t.wdtPend = s.wdtPend)
    ∧ (s.wdtArmed = true → s.wdtCount.toNat ≤ 1 → t.wdtCount = 0 ∧ t.wdtArmed = false ∧ t.wdtPend = true)
    ∧ (s.wdtArmed = true → 1 < s.wdtCount.toNat →
        t.wdtCount.toNat = s.wdtCount.toNat - 1 ∧ t.wdtArmed = true ∧ t.wdtPend = s.wdtPend)
    ∧ t = { s with
        pwmCnt := t.pwmCnt, capTimer := t.capTimer, wdtCount := t.wdtCount, wdtArmed := t.wdtArmed
        wdtPend := t.wdtPend }

/-- An edge with the capture interrupt off changes nothing (spec/42_capture_period.md R114). -/
def Obligations.EdgeIgnoredWhenDisabled : Prop :=
  ∀ s : State, s.cfg.wf = true → s.capIe = false → perform .edge s = .next s

/-- A glitch, a zero period or a frequency above the ceiling, moves the three time-stamp registers and nothing else
(spec/43_frequency_convergence.md R121, R123, R128). -/
def Obligations.GlitchMovesOnlyTimeStamps : Prop :=
  ∀ s : State, s.cfg.wf = true → s.capIe = true →
    ((s.capTimer - s.thisEdge).toNat = 0 ∨ s.cfg.hzCeiling < s.cfg.clockRateHz / (s.capTimer - s.thisEdge).toNat) →
    ∃ t : State, perform .edge s = .next t
      ∧ t.period.toNat = (s.capTimer.toNat + 2 ^ 32 - s.thisEdge.toNat) % 2 ^ 32
      ∧ t = { s with lastEdge := s.thisEdge, thisEdge := s.capTimer, period := t.period }

/-- An accepted sample within the warm-up is accumulated and not tested (R122, R124, R125). -/
def Obligations.WarmupSampleAccumulates : Prop :=
  ∀ (s : State) (hz : Nat), s.cfg.wf = true → s.capIe = true → s.capTimer ≠ s.thisEdge →
    hz = s.cfg.clockRateHz / (s.capTimer - s.thisEdge).toNat → hz ≤ s.cfg.hzCeiling →
    (s.sampleCount.toNat + 1) % 2 ^ 32 ≤ s.cfg.warmup →
    ∃ t : State, perform .edge s = .next t
      ∧ t.instantHz.toNat = hz
      ∧ t.runningSumHz.toNat = (s.runningSumHz.toNat + hz) % 2 ^ 32
      ∧ t.sampleCount.toNat = (s.sampleCount.toNat + 1) % 2 ^ 32
      ∧ t = { s with
          lastEdge := s.thisEdge, thisEdge := s.capTimer, period := s.capTimer - s.thisEdge
          instantHz := t.instantHz, runningSumHz := t.runningSumHz, sampleCount := t.sampleCount }

/-- A tested sample inside the band, both ends included, converges: capture off, the pending self-event withdrawn,
the robot stopped (R126, R129). -/
def Obligations.InBandSampleConverges : Prop :=
  ∀ (s : State) (hz : Nat), s.cfg.wf = true → s.capIe = true → s.capTimer ≠ s.thisEdge →
    hz = s.cfg.clockRateHz / (s.capTimer - s.thisEdge).toNat →
    s.cfg.warmup < (s.sampleCount.toNat + 1) % 2 ^ 32 →
    s.cfg.targetHz - s.cfg.targetHz * s.cfg.tolPct / 100 ≤ hz →
    hz ≤ s.cfg.targetHz + s.cfg.targetHz * s.cfg.tolPct / 100 →
    ∃ t : State, perform .edge s = .next t
      ∧ t.instantHz.toNat = hz
      ∧ t.runningSumHz.toNat = (s.runningSumHz.toNat + hz) % 2 ^ 32
      ∧ t.sampleCount.toNat = (s.sampleCount.toNat + 1) % 2 ^ 32
      ∧ t = { s with
          lastEdge := s.thisEdge, thisEdge := s.capTimer, period := s.capTimer - s.thisEdge
          instantHz := t.instantHz, runningSumHz := t.runningSumHz, sampleCount := t.sampleCount
          capIe := false, contPend := false, detState := .converged, motion := .idle
          actDuty := 0, dir := 0b00, pwmMode := .forcedLow
          trace := s.trace ++ [.stop .beaconConverged] }

/-- A tested sample outside the band publishes the average, zeroes the sum and posts the self-event; the count, the
capture enable and the actuator stay (R130). -/
def Obligations.OutOfBandSamplePublishes : Prop :=
  ∀ (s : State) (hz : Nat), s.cfg.wf = true → s.capIe = true → s.capTimer ≠ s.thisEdge →
    hz = s.cfg.clockRateHz / (s.capTimer - s.thisEdge).toNat → hz ≤ s.cfg.hzCeiling →
    s.cfg.warmup < (s.sampleCount.toNat + 1) % 2 ^ 32 →
    (hz < s.cfg.targetHz - s.cfg.targetHz * s.cfg.tolPct / 100
      ∨ s.cfg.targetHz + s.cfg.targetHz * s.cfg.tolPct / 100 < hz) →
    ∃ t : State, perform .edge s = .next t
      ∧ t.instantHz.toNat = hz
      ∧ t.sampleCount.toNat = (s.sampleCount.toNat + 1) % 2 ^ 32
      ∧ t.averagedHz.toNat = ((s.runningSumHz.toNat + hz) % 2 ^ 32) / ((s.sampleCount.toNat + 1) % 2 ^ 32)
      ∧ t = { s with
          lastEdge := s.thisEdge, thisEdge := s.capTimer, period := s.capTimer - s.thisEdge
          instantHz := t.instantHz, runningSumHz := 0, sampleCount := t.sampleCount
          averagedHz := t.averagedHz, contPend := true
          trace := s.trace ++ [.continueAligning] }

/-- `handle_continue` (R133): enabled exactly when the self-event is pending; while aligning it reissues the
rotation and re-arms sampling, otherwise it drops the event. The refusal where it is not enabled is
notes/assumptions/7.md. -/
def Obligations.ContinueHandlerResult : Prop :=
  ∀ s : State, s.cfg.wf = true →
    (s.contPend = false → perform .handleContinue s = .refused .handleContinueNotEnabled)
    ∧ (s.contPend = true → s.motion ≠ .converging →
        perform .handleContinue s = .next { s with contPend := false })
    ∧ (s.contPend = true → s.motion = .converging → ∃ t : State, perform .handleContinue s = .next t
        ∧ PwmPairFor s.cfg (s.cfg.rotDuty.val * s.scale.val / 100) s.pwmCmp t.pwmMode t.pwmCmp
        ∧ t = { s with
            contPend := false, capIe := true, sampleCount := 0, runningSumHz := 0, detState := .searching
            actDuty := s.cfg.rotDuty, dir := if s.cfg.beaconDir = .cw then 0b10 else 0b01
            pwmMode := t.pwmMode, pwmCmp := t.pwmCmp })

/-- `line_done` (spec/40_dispatcher.md R96). -/
def Obligations.LineEventResult : Prop :=
  ∀ s : State, s.cfg.wf = true →
    (s.lineIe = true → perform .lineDone s = .next { s with
      lineIe := false, actDuty := 0, dir := 0b00, pwmMode := .forcedLow, motion := .idle
      trace := s.trace ++ [.stop .lineDone] })
    ∧ (s.lineIe = false → perform .lineDone s = .next s)

/-- `ad_sample(v)` (spec/44_pwm_actuation.md R150): 0 to 100 scales the duty, 101 to 127 is ignored. -/
def Obligations.ScalingInputResult : Prop :=
  ∀ (s : State) (v : AdValue), s.cfg.wf = true →
    (100 < v.toNat → perform (.adSample v) s = .next s)
    ∧ (v.toNat ≤ 100 → ∃ t : State, perform (.adSample v) s = .next t
        ∧ t.scale.val = v.toNat
        ∧ PwmPairFor s.cfg (s.actDuty.val * v.toNat / 100) s.pwmCmp t.pwmMode t.pwmCmp
        ∧ t = { s with scale := t.scale, pwmMode := t.pwmMode, pwmCmp := t.pwmCmp })

/-- `reset` (spec/70_reset_and_hazards.md R183), from every state: every register at the value of the table of
spec/10_state.md R52 and the trace empty. That the configuration and the schedule stay is the model's reading
(notes/assumptions/16.md). -/
def Obligations.ResetStepResult : Prop :=
  ∀ s : State, s.cfg.wf = true → ∃ t : State, perform .reset s = .next t
    ∧ t.pwmCmp.toNat = s.cfg.pwmPeriod ∧ t.pwmCnt.toNat = s.cfg.pwmPeriod - 1
    ∧ t = { cfg := s.cfg, schedule := s.schedule, motion := .idle, gate := true, cmdReg := s.cfg.sentinel
            lineIe := false, contPend := false, actDuty := 0, scale := 100, dir := 0b00, pwmMode := .forcedLow
            pwmCmp := t.pwmCmp, pwmCnt := t.pwmCnt, wdtArmed := false, wdtTimeoutMs := 0, wdtCount := 0
            wdtPend := false, capTimer := 0, capIe := false, lastEdge := 0, thisEdge := 0, period := 0
            detState := .idle, instantHz := 0, runningSumHz := 0, sampleCount := 0, averagedHz := 0, trace := [] }

/-- The reset state is safe: the outputs are low, edges and line events change nothing, neither deferred step is
enabled (spec/70_reset_and_hazards.md R186; the refusals are notes/assumptions/7.md). -/
def Obligations.ResetStateIsSafe : Prop :=
  ∀ c : Cfg, c.wf = true →
    pwmOut (State.resetWith c) = false ∧ dirL (State.resetWith c) = false ∧ dirR (State.resetWith c) = false
      ∧ perform .edge (State.resetWith c) = .next (State.resetWith c)
      ∧ perform .lineDone (State.resetWith c) = .next (State.resetWith c)
      ∧ perform .wdtIsr (State.resetWith c) = .refused .wdtIsrNotEnabled
      ∧ perform .handleContinue (State.resetWith c) = .refused .handleContinueNotEnabled

/-! ## The PWM Generator (spec/44_pwm_actuation.md) -/

/-- `set_duty` is idempotent for every duty in 0 to 100 (R145). -/
def Obligations.SetDutyIsIdempotent : Prop :=
  ∀ (e : Percent) (s : State), setDuty e (setDuty e s) = setDuty e s

/-- `stop(cause)`, the safe state (R156): duty zero, both lines low, the output low at once, one event, and on the
registers idempotent whatever the causes. -/
def Obligations.StopIsTheSafeState : Prop :=
  ∀ (cause again : StopCause) (s : State),
    stop cause s = { s with
      actDuty := 0, dir := 0b00, pwmMode := .forcedLow, trace := s.trace ++ [.stop cause] }
    ∧ pwmOut (stop cause s) = false ∧ dirL (stop cause s) = false ∧ dirR (stop cause s) = false
    ∧ stop again (stop cause s) = { stop cause s with trace := (stop cause s).trace ++ [.stop again] }

/-- `set_duty(e)` for 1 ≤ e ≤ 99 programs P − (e × P) div 100, which lies in 1 to P, and nothing but the compare
pair; a quotient of 0 leaves the output low at every tick although the mode is `Compare` (R140). -/
def Obligations.SetDutyThreshold : Prop :=
  ∀ (e : Percent) (s : State), s.cfg.wf = true → 1 ≤ e.val → e.val ≤ 99 →
    (setDuty e s).pwmCmp.toNat = s.cfg.pwmPeriod - e.val * s.cfg.pwmPeriod / 100
      ∧ 1 ≤ (setDuty e s).pwmCmp.toNat ∧ (setDuty e s).pwmCmp.toNat ≤ s.cfg.pwmPeriod
      ∧ setDuty e s = { s with pwmMode := .compare, pwmCmp := (setDuty e s).pwmCmp }
      ∧ (e.val * s.cfg.pwmPeriod < 100 → s.pwmCnt.toNat < s.cfg.pwmPeriod →
        (setDuty e s).pwmCmp.toNat = s.cfg.pwmPeriod
          ∧ ∀ n, pwmWave n (setDuty e s) = List.replicate n false)

/-- At the boundary duties 0 and 100 the threshold is not written and the output is forced, low or high, at every
tick from then on (R138, R139). -/
def Obligations.SetDutyBoundaryCases : Prop :=
  ∀ s : State,
    (setDuty 0 s = { s with pwmMode := .forcedLow } ∧ ∀ n, pwmWave n (setDuty 0 s) = List.replicate n false)
      ∧ setDuty 100 s = { s with pwmMode := .forcedHigh } ∧ ∀ n, pwmWave n (setDuty 100 s) = List.replicate n true

/-- The waveform is edge-aligned: from the start of a period the output is high for P − PWM_CMP ticks and then low
to the period's end (R143). -/
def Obligations.WaveformIsEdgeAligned : Prop :=
  ∀ s : State, s.cfg.wf = true → s.pwmMode = .compare → s.pwmCmp.toNat ≤ s.cfg.pwmPeriod →
    s.pwmCnt.toNat = s.cfg.pwmPeriod - 1 →
    pwmWave s.cfg.pwmPeriod s
      = List.replicate (s.cfg.pwmPeriod - s.pwmCmp.toNat) true ++ List.replicate s.pwmCmp.toNat false

/-- In every window of P ticks, whatever the phase, the output that a primitive's effective duty `e` programs is high
for exactly (e × P) div 100 ticks, and for none or all of them at the boundary duties (R144, R159). -/
def Obligations.HighTicksPerPeriod : Prop :=
  ∀ (e : Percent) (s : State), s.cfg.wf = true → s.pwmCnt.toNat < s.cfg.pwmPeriod →
    (pwmWave s.cfg.pwmPeriod (setDuty e s)).count true = e.val * s.cfg.pwmPeriod / 100

/-- `n` ticks at once are `n` ticks (spec/70_reset_and_hazards.md R191, with spec/41_watchdog.md R109). -/
def Obligations.TicksAtOnceAreTicks : Prop :=
  ∀ (n : Nat) (s : State), s.cfg.wf = true → 1 ≤ n → s.pwmCnt.toNat < s.cfg.pwmPeriod →
    tickTimes n s = ticksAtOnce n s

/-! ## The watchdog (spec/41_watchdog.md) -/

/-- A watchdog armed with load L ≥ 1 and left alone expires at exactly the L-th tick, and never again (R106). -/
def Obligations.WatchdogExpiresAtItsLoad : Prop :=
  ∀ (t n : Nat) (s : State), 1 ≤ (wdtLoad s.cfg t).toNat →
    (n < (wdtLoad s.cfg t).toNat →
      (tickTimes n (wdtArm t s)).wdtCount.toNat = (wdtLoad s.cfg t).toNat - n
        ∧ (tickTimes n (wdtArm t s)).wdtArmed = true ∧ (tickTimes n (wdtArm t s)).wdtPend = false)
    ∧ ((wdtLoad s.cfg t).toNat ≤ n →
      (tickTimes n (wdtArm t s)).wdtCount = 0
        ∧ (tickTimes n (wdtArm t s)).wdtArmed = false ∧ (tickTimes n (wdtArm t s)).wdtPend = true)

/-- While the watchdog is disarmed with nothing pending, no run without a rotation fires it: a cancelled watchdog
causes no `stop()`, whether it was cancelled before its expiry or before its handler (R108(c), (d)). -/
def Obligations.CancelledWatchdogNeverFires : Prop :=
  ∀ (ks : List ScheduledStep) (s s' : State), s.wdtArmed = false → s.wdtPend = false →
    (∀ k ∈ ks, dispatchesRotate s.cfg k = false ∧ k ≠ .reset) →
    performAll ks s = .next s' → fireCount s' = fireCount s

/-- Between one arm and the next the watchdog fires at most once (R108(a)). -/
def Obligations.AtMostOneFirePerArm : Prop :=
  ∀ (ks : List ScheduledStep) (s s' : State), (s.wdtArmed = false ∨ s.wdtPend = false) →
    (∀ k ∈ ks, dispatchesRotate s.cfg k = false ∧ k ≠ .reset) →
    performAll ks s = .next s' → fireCount s' ≤ fireCount s + 1

/-- A known command withdraws a pending expiry and a pending self-event, and, unless it enables them itself, the
beacon and the line sensor are ignored after it (R104; spec/60_exceptions.md R168). "Not enabled" is a refusal
(notes/assumptions/7.md). -/
def Obligations.KnownCommandRetiresEverything : Prop :=
  ∀ (b : Byte) (s t : State), isKnownByte s.cfg b = true → perform (.dispatch b) s = .next t →
    perform .wdtIsr t = .refused .wdtIsrNotEnabled
      ∧ perform .handleContinue t = .refused .handleContinueNotEnabled
      ∧ (b ≠ s.cfg.opAlignToBeacon → perform .edge t = .next t)
      ∧ (b ≠ s.cfg.opDriveToLine → perform .lineDone t = .next t)

/-- In a fair execution a pending expiry does not stay pending: at some later step it is served by `wdt_isr`, or
withdrawn by a known command or a reset (R108(b); spec/60_exceptions.md R176). Fairness is a premise
(notes/assumptions/13.md). -/
def Obligations.PendingExpiryIsSettled : Prop :=
  ∀ (c : Cfg) (e : Nat → State) (ks : Nat → ScheduledStep), IsExecution c e ks → Fair e →
    ∀ n, (e n).wdtPend = true → ∃ m, n ≤ m ∧ (∀ j, n ≤ j → j ≤ m → (e j).wdtPend = true)
      ∧ (e (m + 1)).wdtPend = false
      ∧ (ks m = .wdtIsr ∨ ks m = .reset ∨ dispatchesKnown c (ks m) = true)

/-! ## The beacon detector (spec/42_capture_period.md, spec/43_frequency_convergence.md) -/

/-- Two captured edges `n` ticks apart give `PERIOD = n mod 2^32` (spec/42_capture_period.md R116). -/
def Obligations.PeriodOfTwoEdges : Prop :=
  ∀ (n : Nat) (s t u : State), s.capIe = true → perform .edge s = .next t → t.capIe = true →
    performAll (List.replicate n .tick ++ [.edge]) t = .next u → u.period.toNat = n % 2 ^ 32

/-- The running sum never wraps while the sample count does not: the bound is kept by every step, and the sum of an
accepted sample fits (spec/43_frequency_convergence.md R124). -/
def Obligations.RunningSumNeverWraps : Prop :=
  ∀ (k : ScheduledStep) (s t : State), SumBound s → s.sampleCount.toNat + 1 < 2 ^ 32 →
    perform k s = .next t →
    SumBound t ∧ (k = .edge → s.capIe = true → isGlitch s.cfg (wrapDiff s.capTimer s.thisEdge) = false →
      s.runningSumHz.toNat + periodHz s.cfg (wrapDiff s.capTimer s.thisEdge) < 2 ^ 32)

/-- Convergence (R135): after the warm-up, the first in-band sample stops the robot once, and every later edge is
ignored. -/
def Obligations.FirstInBandSampleStopsOnce : Prop :=
  ∀ (ks : List ScheduledStep) (s u : State), s.cfg.wf = true → s.capIe = true →
    s.cfg.warmup ≤ s.sampleCount.toNat → s.sampleCount.toNat + 1 < 2 ^ 32 → s.capTimer ≠ s.thisEdge →
    inBand s.cfg (s.cfg.clockRateHz / (s.capTimer - s.thisEdge).toNat) = true →
    (∀ k ∈ ks, k = .tick ∨ k = .edge) → performAll (.edge :: ks) s = .next u →
    u.trace = s.trace ++ [.stop .beaconConverged] ∧ u.capIe = false ∧ u.detState = .converged
      ∧ u.thisEdge = s.capTimer ∧ u.instantHz.toNat = s.cfg.clockRateHz / (s.capTimer - s.thisEdge).toNat

/-- Non-convergence (R136): a run in which every accepted sample is out of band never calls `stop()` and never
leaves the alignment. -/
def Obligations.OutOfBandRunNeverStops : Prop :=
  ∀ (ks : List ScheduledStep) (s u : State), s.motion = .converging → OutOfBandRun ks s →
    performAll ks s = .next u →
    stopCount u = stopCount s ∧ u.motion = .converging ∧ (s.capIe = true → u.capIe = true)

/-! ## The dispatcher's contract (spec/40_dispatcher.md) -/

/-- A step emits exactly one `ReqNext`, as its last event, when it dispatches a byte that is neither the sentinel nor
`EndRun` with the gate open; every other step emits none (R93, R98; spec/20_memory.md R59). -/
def Obligations.RequestExactlyOncePerDispatch : Prop :=
  ∀ (k : ScheduledStep) (s t : State), k ≠ .reset → perform k s = .next t →
    reqCount t = reqCount s + requestsOf s.cfg s.gate k
      ∧ (requestsOf s.cfg s.gate k = 1 → t.trace.getLast? = some .reqNext)

/-- From reset and as long as no `EndRun` is dispatched, `REQ_COUNT` is the number of non-sentinel dispatches
(R98). -/
def Obligations.RequestCountIsDispatchCount : Prop :=
  ∀ (c : Cfg) (ks : List ScheduledStep) (s : State),
    (∀ k ∈ ks, k ≠ .reset ∧ k ≠ .dispatch c.opEndRun) → performAll ks (State.resetWith c) = .next s →
    reqCount s = ks.countP (dispatchesNonSentinel c)

/-- The gate is closed by `EndRun` only and opened by `reset` only (spec/10_state.md R19). -/
def Obligations.GateClosedByEndRunOpenedByReset : Prop :=
  ∀ (k : ScheduledStep) (s t : State), perform k s = .next t → t.gate ≠ s.gate →
    (t.gate = false ∧ k = .dispatch s.cfg.opEndRun) ∨ (t.gate = true ∧ k = .reset)

/-- After the gate is closed no request is emitted until a reset (R91; spec/70_reset_and_hazards.md R185). -/
def Obligations.NoRequestUntilReset : Prop :=
  ∀ (ks : List ScheduledStep) (s t : State), s.gate = false → (∀ k ∈ ks, k ≠ .reset) →
    performAll ks s = .next t → t.gate = false ∧ reqCount t = reqCount s

/-- After `Stop` or `EndRun`, from any state, and until the next known command, the robot stays stopped and the PWM
output low (R99). -/
def Obligations.StoppedUntilNextCommand : Prop :=
  ∀ (i : Instr) (ks : List ScheduledStep) (s t u : State), (i = .stop ∨ i = .endRun) → exec i s = .next t →
    (∀ k ∈ ks, dispatchesKnown s.cfg k = false) → performAll ks t = .next u →
    u.actDuty = 0 ∧ u.dir = 0b00 ∧ u.motion = .idle ∧ pwmOut u = false

/-! ## Whole-machine rules (spec/10_state.md, spec/60_exceptions.md) -/

/-- Every step keeps the range and coupling invariants (R49, R50(a) to (h)). -/
def Obligations.CouplingInvariantKept : Prop :=
  ∀ s t : State, CouplingInv s → step s = .next t → CouplingInv t

/-- The reset state has them, for every well-formed configuration (R49, R50), `State.reset` among them (its
configuration is the model's choice, notes/assumptions/5.md). -/
def Obligations.CouplingInvariantAtReset : Prop :=
  (∀ c : Cfg, c.wf = true → CouplingInv (State.resetWith c)) ∧ CouplingInv State.reset

/-- Every step keeps the actuator table, and the reset state has it (spec/44_pwm_actuation.md R158). -/
def Obligations.ActuatorTableKept : Prop :=
  (∀ s t : State, ActuatorTable s → step s = .next t → ActuatorTable t)
    ∧ ∀ c : Cfg, ActuatorTable (State.resetWith c)

/-- In every state that a run from reset reaches, at most one of the three sources is live: the watchdog (counting or
expired), the capture interrupt, the line sensor (spec/60_exceptions.md R166). -/
def Obligations.AtMostOneSourceIsLive : Prop :=
  ∀ (c : Cfg) (ks : List ScheduledStep) (s : State), c.wf = true →
    performAll ks (State.resetWith c) = .next s →
    [s.wdtArmed || s.wdtPend, s.capIe, s.lineIe].count true ≤ 1

/-- What interrupt context may do (spec/60_exceptions.md R172): the two handlers never write the gate, the command
register, the line enable, the scale or the armed watchdog, never request, and touch the actuator only by stopping. -/
def Obligations.InterruptContextOnlyStops : Prop :=
  ∀ (k : ScheduledStep) (s t : State), k = .wdtIsr ∨ k = .edge → perform k s = .next t →
    t.gate = s.gate ∧ t.cmdReg = s.cmdReg ∧ t.lineIe = s.lineIe ∧ t.scale = s.scale
      ∧ t.wdtArmed = s.wdtArmed ∧ t.wdtCount = s.wdtCount ∧ t.wdtTimeoutMs = s.wdtTimeoutMs
      ∧ t.pwmCmp = s.pwmCmp ∧ t.pwmCnt = s.pwmCnt ∧ t.capTimer = s.capTimer ∧ reqCount t = reqCount s
      ∧ ((t.actDuty = s.actDuty ∧ t.dir = s.dir ∧ t.pwmMode = s.pwmMode ∧ t.motion = s.motion)
        ∨ (t.actDuty = 0 ∧ t.dir = 0b00 ∧ t.pwmMode = .forcedLow ∧ t.motion = .idle))

/-- Who writes what (spec/10_state.md R51, spec/20_memory.md R61): every register and the trace change only in the
steps of their own writers, `OwnWrites` naming them group by group; `reset` writes them all. That no step, `reset`
included, writes the configuration or the schedule is the model's choice about two fields of its own
(notes/assumptions/1.md, 4.md, 16.md). -/
def Obligations.RegistersHaveTheirWriters : Prop :=
  ∀ (k : ScheduledStep) (s t : State), perform k s = .next t →
    t.cfg = s.cfg ∧ t.schedule = s.schedule ∧ (k ≠ .reset → OwnWrites k s t)

/-- `ad_sample` commutes with every step on the actuator request, the motion and the enables, and is enabled in either
order (spec/60_exceptions.md R168). -/
def Obligations.ScalingInputCommutes : Prop :=
  ∀ (k : ScheduledStep) (v : AdValue) (s : State),
    ((∃ a, performAll [k, .adSample v] s = .next a) ↔ ∃ b, performAll [.adSample v, k] s = .next b)
      ∧ ∀ a b, performAll [k, .adSample v] s = .next a → performAll [.adSample v, k] s = .next b → SameControl a b

/-- The output lines for every value of `DIR` (spec/10_state.md R25, spec/44_pwm_actuation.md R151): `dir_l` is bit 0
and `dir_r` bit 1, and the codes of the four directions drive them so. -/
def Obligations.DirectionLinesFollowDir : Prop :=
  (∀ s : State, dirL s = s.dir.getLsbD 0 ∧ dirR s = s.dir.getLsbD 1
      ∧ (s.dir = 0b00 → dirL s = false ∧ dirR s = false) ∧ (s.dir = 0b11 → dirL s = true ∧ dirR s = true)
      ∧ (s.dir = 0b10 → dirL s = false ∧ dirR s = true) ∧ (s.dir = 0b01 → dirL s = true ∧ dirR s = false))
    ∧ dirCode .forward = 0b00 ∧ dirCode .reverse = 0b11 ∧ dirCode .cw = 0b10 ∧ dirCode .ccw = 0b01

/-- The stop state, with nothing armed, pending or enabled, is what `Stop` and `EndRun` leave from any state and what
`reset` gives, and every step of the machine that dispatches no known command keeps it (R99). -/
def Obligations.StopStateKeptByEveryStep : Prop :=
  (∀ s t : State, StoppedState s → dispatchesKnown s.cfg (nextStep s) = false → step s = .next t → StoppedState t)
    ∧ (∀ (i : Instr) (s t : State), (i = .stop ∨ i = .endRun) → exec i s = .next t → StoppedState t)
    ∧ ∀ c : Cfg, StoppedState (State.resetWith c)
end

