-- ==== Sys2Proof/Laws/State.lean ====
section
/-! SUPPORT. One lemma per field for each operation that is a plain record update, so that no later proof unfolds
one. -/

namespace Sys2Proof.Machine

/-! `emit` writes the trace only. -/

@[simp] theorem emit_cfg (e : TraceEvent) (s : State) : (emit e s).cfg = s.cfg := rfl
@[simp] theorem emit_schedule (e : TraceEvent) (s : State) : (emit e s).schedule = s.schedule := rfl
@[simp] theorem emit_motion (e : TraceEvent) (s : State) : (emit e s).motion = s.motion := rfl
@[simp] theorem emit_gate (e : TraceEvent) (s : State) : (emit e s).gate = s.gate := rfl
@[simp] theorem emit_cmdReg (e : TraceEvent) (s : State) : (emit e s).cmdReg = s.cmdReg := rfl
@[simp] theorem emit_lineIe (e : TraceEvent) (s : State) : (emit e s).lineIe = s.lineIe := rfl
@[simp] theorem emit_contPend (e : TraceEvent) (s : State) : (emit e s).contPend = s.contPend := rfl
@[simp] theorem emit_actDuty (e : TraceEvent) (s : State) : (emit e s).actDuty = s.actDuty := rfl
@[simp] theorem emit_scale (e : TraceEvent) (s : State) : (emit e s).scale = s.scale := rfl
@[simp] theorem emit_dir (e : TraceEvent) (s : State) : (emit e s).dir = s.dir := rfl
@[simp] theorem emit_pwmMode (e : TraceEvent) (s : State) : (emit e s).pwmMode = s.pwmMode := rfl
@[simp] theorem emit_pwmCmp (e : TraceEvent) (s : State) : (emit e s).pwmCmp = s.pwmCmp := rfl
@[simp] theorem emit_pwmCnt (e : TraceEvent) (s : State) : (emit e s).pwmCnt = s.pwmCnt := rfl
@[simp] theorem emit_wdtArmed (e : TraceEvent) (s : State) : (emit e s).wdtArmed = s.wdtArmed := rfl
@[simp] theorem emit_wdtTimeoutMs (e : TraceEvent) (s : State) : (emit e s).wdtTimeoutMs = s.wdtTimeoutMs := rfl
@[simp] theorem emit_wdtCount (e : TraceEvent) (s : State) : (emit e s).wdtCount = s.wdtCount := rfl
@[simp] theorem emit_wdtPend (e : TraceEvent) (s : State) : (emit e s).wdtPend = s.wdtPend := rfl
@[simp] theorem emit_capTimer (e : TraceEvent) (s : State) : (emit e s).capTimer = s.capTimer := rfl
@[simp] theorem emit_capIe (e : TraceEvent) (s : State) : (emit e s).capIe = s.capIe := rfl
@[simp] theorem emit_lastEdge (e : TraceEvent) (s : State) : (emit e s).lastEdge = s.lastEdge := rfl
@[simp] theorem emit_thisEdge (e : TraceEvent) (s : State) : (emit e s).thisEdge = s.thisEdge := rfl
@[simp] theorem emit_period (e : TraceEvent) (s : State) : (emit e s).period = s.period := rfl
@[simp] theorem emit_detState (e : TraceEvent) (s : State) : (emit e s).detState = s.detState := rfl
@[simp] theorem emit_instantHz (e : TraceEvent) (s : State) : (emit e s).instantHz = s.instantHz := rfl
@[simp] theorem emit_runningSumHz (e : TraceEvent) (s : State) : (emit e s).runningSumHz = s.runningSumHz := rfl
@[simp] theorem emit_sampleCount (e : TraceEvent) (s : State) : (emit e s).sampleCount = s.sampleCount := rfl
@[simp] theorem emit_averagedHz (e : TraceEvent) (s : State) : (emit e s).averagedHz = s.averagedHz := rfl
@[simp] theorem emit_trace (e : TraceEvent) (s : State) : (emit e s).trace = s.trace ++ [e] := rfl

/-! `wdt_arm` writes the watchdog group (R103). -/

@[simp] theorem wdtArm_cfg (ms : Nat) (s : State) : (wdtArm ms s).cfg = s.cfg := rfl
@[simp] theorem wdtArm_schedule (ms : Nat) (s : State) : (wdtArm ms s).schedule = s.schedule := rfl
@[simp] theorem wdtArm_motion (ms : Nat) (s : State) : (wdtArm ms s).motion = s.motion := rfl
@[simp] theorem wdtArm_gate (ms : Nat) (s : State) : (wdtArm ms s).gate = s.gate := rfl
@[simp] theorem wdtArm_cmdReg (ms : Nat) (s : State) : (wdtArm ms s).cmdReg = s.cmdReg := rfl
@[simp] theorem wdtArm_lineIe (ms : Nat) (s : State) : (wdtArm ms s).lineIe = s.lineIe := rfl
@[simp] theorem wdtArm_contPend (ms : Nat) (s : State) : (wdtArm ms s).contPend = s.contPend := rfl
@[simp] theorem wdtArm_actDuty (ms : Nat) (s : State) : (wdtArm ms s).actDuty = s.actDuty := rfl
@[simp] theorem wdtArm_scale (ms : Nat) (s : State) : (wdtArm ms s).scale = s.scale := rfl
@[simp] theorem wdtArm_dir (ms : Nat) (s : State) : (wdtArm ms s).dir = s.dir := rfl
@[simp] theorem wdtArm_pwmMode (ms : Nat) (s : State) : (wdtArm ms s).pwmMode = s.pwmMode := rfl
@[simp] theorem wdtArm_pwmCmp (ms : Nat) (s : State) : (wdtArm ms s).pwmCmp = s.pwmCmp := rfl
@[simp] theorem wdtArm_pwmCnt (ms : Nat) (s : State) : (wdtArm ms s).pwmCnt = s.pwmCnt := rfl
@[simp] theorem wdtArm_wdtArmed (ms : Nat) (s : State) : (wdtArm ms s).wdtArmed = true := rfl
@[simp] theorem wdtArm_wdtTimeoutMs (ms : Nat) (s : State) : (wdtArm ms s).wdtTimeoutMs = BitVec.ofNat 32 ms := rfl
@[simp] theorem wdtArm_wdtCount (ms : Nat) (s : State) : (wdtArm ms s).wdtCount = wdtLoad s.cfg ms := rfl
@[simp] theorem wdtArm_wdtPend (ms : Nat) (s : State) : (wdtArm ms s).wdtPend = false := rfl
@[simp] theorem wdtArm_capTimer (ms : Nat) (s : State) : (wdtArm ms s).capTimer = s.capTimer := rfl
@[simp] theorem wdtArm_capIe (ms : Nat) (s : State) : (wdtArm ms s).capIe = s.capIe := rfl
@[simp] theorem wdtArm_lastEdge (ms : Nat) (s : State) : (wdtArm ms s).lastEdge = s.lastEdge := rfl
@[simp] theorem wdtArm_thisEdge (ms : Nat) (s : State) : (wdtArm ms s).thisEdge = s.thisEdge := rfl
@[simp] theorem wdtArm_period (ms : Nat) (s : State) : (wdtArm ms s).period = s.period := rfl
@[simp] theorem wdtArm_detState (ms : Nat) (s : State) : (wdtArm ms s).detState = s.detState := rfl
@[simp] theorem wdtArm_instantHz (ms : Nat) (s : State) : (wdtArm ms s).instantHz = s.instantHz := rfl
@[simp] theorem wdtArm_runningSumHz (ms : Nat) (s : State) : (wdtArm ms s).runningSumHz = s.runningSumHz := rfl
@[simp] theorem wdtArm_sampleCount (ms : Nat) (s : State) : (wdtArm ms s).sampleCount = s.sampleCount := rfl
@[simp] theorem wdtArm_averagedHz (ms : Nat) (s : State) : (wdtArm ms s).averagedHz = s.averagedHz := rfl
@[simp] theorem wdtArm_trace (ms : Nat) (s : State) : (wdtArm ms s).trace = s.trace := rfl

/-! `wdt_cancel` leaves the timeout (R104). -/

@[simp] theorem wdtCancel_cfg (s : State) : (wdtCancel s).cfg = s.cfg := rfl
@[simp] theorem wdtCancel_schedule (s : State) : (wdtCancel s).schedule = s.schedule := rfl
@[simp] theorem wdtCancel_motion (s : State) : (wdtCancel s).motion = s.motion := rfl
@[simp] theorem wdtCancel_gate (s : State) : (wdtCancel s).gate = s.gate := rfl
@[simp] theorem wdtCancel_cmdReg (s : State) : (wdtCancel s).cmdReg = s.cmdReg := rfl
@[simp] theorem wdtCancel_lineIe (s : State) : (wdtCancel s).lineIe = s.lineIe := rfl
@[simp] theorem wdtCancel_contPend (s : State) : (wdtCancel s).contPend = s.contPend := rfl
@[simp] theorem wdtCancel_actDuty (s : State) : (wdtCancel s).actDuty = s.actDuty := rfl
@[simp] theorem wdtCancel_scale (s : State) : (wdtCancel s).scale = s.scale := rfl
@[simp] theorem wdtCancel_dir (s : State) : (wdtCancel s).dir = s.dir := rfl
@[simp] theorem wdtCancel_pwmMode (s : State) : (wdtCancel s).pwmMode = s.pwmMode := rfl
@[simp] theorem wdtCancel_pwmCmp (s : State) : (wdtCancel s).pwmCmp = s.pwmCmp := rfl
@[simp] theorem wdtCancel_pwmCnt (s : State) : (wdtCancel s).pwmCnt = s.pwmCnt := rfl
@[simp] theorem wdtCancel_wdtArmed (s : State) : (wdtCancel s).wdtArmed = false := rfl
@[simp] theorem wdtCancel_wdtTimeoutMs (s : State) : (wdtCancel s).wdtTimeoutMs = s.wdtTimeoutMs := rfl
@[simp] theorem wdtCancel_wdtCount (s : State) : (wdtCancel s).wdtCount = 0 := rfl
@[simp] theorem wdtCancel_wdtPend (s : State) : (wdtCancel s).wdtPend = false := rfl
@[simp] theorem wdtCancel_capTimer (s : State) : (wdtCancel s).capTimer = s.capTimer := rfl
@[simp] theorem wdtCancel_capIe (s : State) : (wdtCancel s).capIe = s.capIe := rfl
@[simp] theorem wdtCancel_lastEdge (s : State) : (wdtCancel s).lastEdge = s.lastEdge := rfl
@[simp] theorem wdtCancel_thisEdge (s : State) : (wdtCancel s).thisEdge = s.thisEdge := rfl
@[simp] theorem wdtCancel_period (s : State) : (wdtCancel s).period = s.period := rfl
@[simp] theorem wdtCancel_detState (s : State) : (wdtCancel s).detState = s.detState := rfl
@[simp] theorem wdtCancel_instantHz (s : State) : (wdtCancel s).instantHz = s.instantHz := rfl
@[simp] theorem wdtCancel_runningSumHz (s : State) : (wdtCancel s).runningSumHz = s.runningSumHz := rfl
@[simp] theorem wdtCancel_sampleCount (s : State) : (wdtCancel s).sampleCount = s.sampleCount := rfl
@[simp] theorem wdtCancel_averagedHz (s : State) : (wdtCancel s).averagedHz = s.averagedHz := rfl
@[simp] theorem wdtCancel_trace (s : State) : (wdtCancel s).trace = s.trace := rfl

/-! `retire` clears every enable and pending bit (R78). -/

@[simp] theorem retire_cfg (s : State) : (retire s).cfg = s.cfg := rfl
@[simp] theorem retire_schedule (s : State) : (retire s).schedule = s.schedule := rfl
@[simp] theorem retire_motion (s : State) : (retire s).motion = s.motion := rfl
@[simp] theorem retire_gate (s : State) : (retire s).gate = s.gate := rfl
@[simp] theorem retire_cmdReg (s : State) : (retire s).cmdReg = s.cmdReg := rfl
@[simp] theorem retire_lineIe (s : State) : (retire s).lineIe = false := rfl
@[simp] theorem retire_contPend (s : State) : (retire s).contPend = false := rfl
@[simp] theorem retire_actDuty (s : State) : (retire s).actDuty = s.actDuty := rfl
@[simp] theorem retire_scale (s : State) : (retire s).scale = s.scale := rfl
@[simp] theorem retire_dir (s : State) : (retire s).dir = s.dir := rfl
@[simp] theorem retire_pwmMode (s : State) : (retire s).pwmMode = s.pwmMode := rfl
@[simp] theorem retire_pwmCmp (s : State) : (retire s).pwmCmp = s.pwmCmp := rfl
@[simp] theorem retire_pwmCnt (s : State) : (retire s).pwmCnt = s.pwmCnt := rfl
@[simp] theorem retire_wdtArmed (s : State) : (retire s).wdtArmed = false := rfl
@[simp] theorem retire_wdtTimeoutMs (s : State) : (retire s).wdtTimeoutMs = s.wdtTimeoutMs := rfl
@[simp] theorem retire_wdtCount (s : State) : (retire s).wdtCount = 0 := rfl
@[simp] theorem retire_wdtPend (s : State) : (retire s).wdtPend = false := rfl
@[simp] theorem retire_capTimer (s : State) : (retire s).capTimer = s.capTimer := rfl
@[simp] theorem retire_capIe (s : State) : (retire s).capIe = false := rfl
@[simp] theorem retire_lastEdge (s : State) : (retire s).lastEdge = s.lastEdge := rfl
@[simp] theorem retire_thisEdge (s : State) : (retire s).thisEdge = s.thisEdge := rfl
@[simp] theorem retire_period (s : State) : (retire s).period = s.period := rfl
@[simp] theorem retire_detState (s : State) : (retire s).detState = .idle := rfl
@[simp] theorem retire_instantHz (s : State) : (retire s).instantHz = s.instantHz := rfl
@[simp] theorem retire_runningSumHz (s : State) : (retire s).runningSumHz = s.runningSumHz := rfl
@[simp] theorem retire_sampleCount (s : State) : (retire s).sampleCount = s.sampleCount := rfl
@[simp] theorem retire_averagedHz (s : State) : (retire s).averagedHz = s.averagedHz := rfl
@[simp] theorem retire_trace (s : State) : (retire s).trace = s.trace := rfl

/-! `rearm_sampling` opens a new window (R132). -/

@[simp] theorem rearmSampling_cfg (s : State) : (rearmSampling s).cfg = s.cfg := rfl
@[simp] theorem rearmSampling_schedule (s : State) : (rearmSampling s).schedule = s.schedule := rfl
@[simp] theorem rearmSampling_motion (s : State) : (rearmSampling s).motion = s.motion := rfl
@[simp] theorem rearmSampling_gate (s : State) : (rearmSampling s).gate = s.gate := rfl
@[simp] theorem rearmSampling_cmdReg (s : State) : (rearmSampling s).cmdReg = s.cmdReg := rfl
@[simp] theorem rearmSampling_lineIe (s : State) : (rearmSampling s).lineIe = s.lineIe := rfl
@[simp] theorem rearmSampling_contPend (s : State) : (rearmSampling s).contPend = s.contPend := rfl
@[simp] theorem rearmSampling_actDuty (s : State) : (rearmSampling s).actDuty = s.actDuty := rfl
@[simp] theorem rearmSampling_scale (s : State) : (rearmSampling s).scale = s.scale := rfl
@[simp] theorem rearmSampling_dir (s : State) : (rearmSampling s).dir = s.dir := rfl
@[simp] theorem rearmSampling_pwmMode (s : State) : (rearmSampling s).pwmMode = s.pwmMode := rfl
@[simp] theorem rearmSampling_pwmCmp (s : State) : (rearmSampling s).pwmCmp = s.pwmCmp := rfl
@[simp] theorem rearmSampling_pwmCnt (s : State) : (rearmSampling s).pwmCnt = s.pwmCnt := rfl
@[simp] theorem rearmSampling_wdtArmed (s : State) : (rearmSampling s).wdtArmed = s.wdtArmed := rfl
@[simp] theorem rearmSampling_wdtTimeoutMs (s : State) : (rearmSampling s).wdtTimeoutMs = s.wdtTimeoutMs := rfl
@[simp] theorem rearmSampling_wdtCount (s : State) : (rearmSampling s).wdtCount = s.wdtCount := rfl
@[simp] theorem rearmSampling_wdtPend (s : State) : (rearmSampling s).wdtPend = s.wdtPend := rfl
@[simp] theorem rearmSampling_capTimer (s : State) : (rearmSampling s).capTimer = s.capTimer := rfl
@[simp] theorem rearmSampling_capIe (s : State) : (rearmSampling s).capIe = true := rfl
@[simp] theorem rearmSampling_lastEdge (s : State) : (rearmSampling s).lastEdge = s.lastEdge := rfl
@[simp] theorem rearmSampling_thisEdge (s : State) : (rearmSampling s).thisEdge = s.thisEdge := rfl
@[simp] theorem rearmSampling_period (s : State) : (rearmSampling s).period = s.period := rfl
@[simp] theorem rearmSampling_detState (s : State) : (rearmSampling s).detState = .searching := rfl
@[simp] theorem rearmSampling_instantHz (s : State) : (rearmSampling s).instantHz = s.instantHz := rfl
@[simp] theorem rearmSampling_runningSumHz (s : State) : (rearmSampling s).runningSumHz = 0 := rfl
@[simp] theorem rearmSampling_sampleCount (s : State) : (rearmSampling s).sampleCount = 0 := rfl
@[simp] theorem rearmSampling_averagedHz (s : State) : (rearmSampling s).averagedHz = s.averagedHz := rfl
@[simp] theorem rearmSampling_trace (s : State) : (rearmSampling s).trace = s.trace := rfl

/-! The capture part of `edge` moves the time stamps (R115). -/

@[simp] theorem captureEdge_cfg (s : State) : (captureEdge s).cfg = s.cfg := rfl
@[simp] theorem captureEdge_schedule (s : State) : (captureEdge s).schedule = s.schedule := rfl
@[simp] theorem captureEdge_motion (s : State) : (captureEdge s).motion = s.motion := rfl
@[simp] theorem captureEdge_gate (s : State) : (captureEdge s).gate = s.gate := rfl
@[simp] theorem captureEdge_cmdReg (s : State) : (captureEdge s).cmdReg = s.cmdReg := rfl
@[simp] theorem captureEdge_lineIe (s : State) : (captureEdge s).lineIe = s.lineIe := rfl
@[simp] theorem captureEdge_contPend (s : State) : (captureEdge s).contPend = s.contPend := rfl
@[simp] theorem captureEdge_actDuty (s : State) : (captureEdge s).actDuty = s.actDuty := rfl
@[simp] theorem captureEdge_scale (s : State) : (captureEdge s).scale = s.scale := rfl
@[simp] theorem captureEdge_dir (s : State) : (captureEdge s).dir = s.dir := rfl
@[simp] theorem captureEdge_pwmMode (s : State) : (captureEdge s).pwmMode = s.pwmMode := rfl
@[simp] theorem captureEdge_pwmCmp (s : State) : (captureEdge s).pwmCmp = s.pwmCmp := rfl
@[simp] theorem captureEdge_pwmCnt (s : State) : (captureEdge s).pwmCnt = s.pwmCnt := rfl
@[simp] theorem captureEdge_wdtArmed (s : State) : (captureEdge s).wdtArmed = s.wdtArmed := rfl
@[simp] theorem captureEdge_wdtTimeoutMs (s : State) : (captureEdge s).wdtTimeoutMs = s.wdtTimeoutMs := rfl
@[simp] theorem captureEdge_wdtCount (s : State) : (captureEdge s).wdtCount = s.wdtCount := rfl
@[simp] theorem captureEdge_wdtPend (s : State) : (captureEdge s).wdtPend = s.wdtPend := rfl
@[simp] theorem captureEdge_capTimer (s : State) : (captureEdge s).capTimer = s.capTimer := rfl
@[simp] theorem captureEdge_capIe (s : State) : (captureEdge s).capIe = s.capIe := rfl
@[simp] theorem captureEdge_lastEdge (s : State) : (captureEdge s).lastEdge = s.thisEdge := rfl
@[simp] theorem captureEdge_thisEdge (s : State) : (captureEdge s).thisEdge = s.capTimer := rfl
@[simp] theorem captureEdge_period (s : State) : (captureEdge s).period = wrapDiff s.capTimer s.thisEdge := rfl
@[simp] theorem captureEdge_detState (s : State) : (captureEdge s).detState = s.detState := rfl
@[simp] theorem captureEdge_instantHz (s : State) : (captureEdge s).instantHz = s.instantHz := rfl
@[simp] theorem captureEdge_runningSumHz (s : State) : (captureEdge s).runningSumHz = s.runningSumHz := rfl
@[simp] theorem captureEdge_sampleCount (s : State) : (captureEdge s).sampleCount = s.sampleCount := rfl
@[simp] theorem captureEdge_averagedHz (s : State) : (captureEdge s).averagedHz = s.averagedHz := rfl
@[simp] theorem captureEdge_trace (s : State) : (captureEdge s).trace = s.trace := rfl

/-! The accumulation of an accepted sample (R124). -/

@[simp] theorem accumulate_cfg (hz : Nat) (s : State) : (accumulate hz s).cfg = s.cfg := rfl
@[simp] theorem accumulate_schedule (hz : Nat) (s : State) : (accumulate hz s).schedule = s.schedule := rfl
@[simp] theorem accumulate_motion (hz : Nat) (s : State) : (accumulate hz s).motion = s.motion := rfl
@[simp] theorem accumulate_gate (hz : Nat) (s : State) : (accumulate hz s).gate = s.gate := rfl
@[simp] theorem accumulate_cmdReg (hz : Nat) (s : State) : (accumulate hz s).cmdReg = s.cmdReg := rfl
@[simp] theorem accumulate_lineIe (hz : Nat) (s : State) : (accumulate hz s).lineIe = s.lineIe := rfl
@[simp] theorem accumulate_contPend (hz : Nat) (s : State) : (accumulate hz s).contPend = s.contPend := rfl
@[simp] theorem accumulate_actDuty (hz : Nat) (s : State) : (accumulate hz s).actDuty = s.actDuty := rfl
@[simp] theorem accumulate_scale (hz : Nat) (s : State) : (accumulate hz s).scale = s.scale := rfl
@[simp] theorem accumulate_dir (hz : Nat) (s : State) : (accumulate hz s).dir = s.dir := rfl
@[simp] theorem accumulate_pwmMode (hz : Nat) (s : State) : (accumulate hz s).pwmMode = s.pwmMode := rfl
@[simp] theorem accumulate_pwmCmp (hz : Nat) (s : State) : (accumulate hz s).pwmCmp = s.pwmCmp := rfl
@[simp] theorem accumulate_pwmCnt (hz : Nat) (s : State) : (accumulate hz s).pwmCnt = s.pwmCnt := rfl
@[simp] theorem accumulate_wdtArmed (hz : Nat) (s : State) : (accumulate hz s).wdtArmed = s.wdtArmed := rfl
@[simp] theorem accumulate_wdtTimeoutMs (hz : Nat) (s : State) : (accumulate hz s).wdtTimeoutMs = s.wdtTimeoutMs := rfl
@[simp] theorem accumulate_wdtCount (hz : Nat) (s : State) : (accumulate hz s).wdtCount = s.wdtCount := rfl
@[simp] theorem accumulate_wdtPend (hz : Nat) (s : State) : (accumulate hz s).wdtPend = s.wdtPend := rfl
@[simp] theorem accumulate_capTimer (hz : Nat) (s : State) : (accumulate hz s).capTimer = s.capTimer := rfl
@[simp] theorem accumulate_capIe (hz : Nat) (s : State) : (accumulate hz s).capIe = s.capIe := rfl
@[simp] theorem accumulate_lastEdge (hz : Nat) (s : State) : (accumulate hz s).lastEdge = s.lastEdge := rfl
@[simp] theorem accumulate_thisEdge (hz : Nat) (s : State) : (accumulate hz s).thisEdge = s.thisEdge := rfl
@[simp] theorem accumulate_period (hz : Nat) (s : State) : (accumulate hz s).period = s.period := rfl
@[simp] theorem accumulate_detState (hz : Nat) (s : State) : (accumulate hz s).detState = s.detState := rfl
@[simp] theorem accumulate_instantHz (hz : Nat) (s : State) : (accumulate hz s).instantHz = BitVec.ofNat 32 hz := rfl
@[simp] theorem accumulate_runningSumHz (hz : Nat) (s : State) : (accumulate hz s).runningSumHz = s.runningSumHz + BitVec.ofNat 32 hz := rfl
@[simp] theorem accumulate_sampleCount (hz : Nat) (s : State) : (accumulate hz s).sampleCount = s.sampleCount + 1 := rfl
@[simp] theorem accumulate_averagedHz (hz : Nat) (s : State) : (accumulate hz s).averagedHz = s.averagedHz := rfl
@[simp] theorem accumulate_trace (hz : Nat) (s : State) : (accumulate hz s).trace = s.trace := rfl

/-! The time base advances by one (R112). -/

@[simp] theorem tickCapTimer_cfg (s : State) : (tickCapTimer s).cfg = s.cfg := rfl
@[simp] theorem tickCapTimer_schedule (s : State) : (tickCapTimer s).schedule = s.schedule := rfl
@[simp] theorem tickCapTimer_motion (s : State) : (tickCapTimer s).motion = s.motion := rfl
@[simp] theorem tickCapTimer_gate (s : State) : (tickCapTimer s).gate = s.gate := rfl
@[simp] theorem tickCapTimer_cmdReg (s : State) : (tickCapTimer s).cmdReg = s.cmdReg := rfl
@[simp] theorem tickCapTimer_lineIe (s : State) : (tickCapTimer s).lineIe = s.lineIe := rfl
@[simp] theorem tickCapTimer_contPend (s : State) : (tickCapTimer s).contPend = s.contPend := rfl
@[simp] theorem tickCapTimer_actDuty (s : State) : (tickCapTimer s).actDuty = s.actDuty := rfl
@[simp] theorem tickCapTimer_scale (s : State) : (tickCapTimer s).scale = s.scale := rfl
@[simp] theorem tickCapTimer_dir (s : State) : (tickCapTimer s).dir = s.dir := rfl
@[simp] theorem tickCapTimer_pwmMode (s : State) : (tickCapTimer s).pwmMode = s.pwmMode := rfl
@[simp] theorem tickCapTimer_pwmCmp (s : State) : (tickCapTimer s).pwmCmp = s.pwmCmp := rfl
@[simp] theorem tickCapTimer_pwmCnt (s : State) : (tickCapTimer s).pwmCnt = s.pwmCnt := rfl
@[simp] theorem tickCapTimer_wdtArmed (s : State) : (tickCapTimer s).wdtArmed = s.wdtArmed := rfl
@[simp] theorem tickCapTimer_wdtTimeoutMs (s : State) : (tickCapTimer s).wdtTimeoutMs = s.wdtTimeoutMs := rfl
@[simp] theorem tickCapTimer_wdtCount (s : State) : (tickCapTimer s).wdtCount = s.wdtCount := rfl
@[simp] theorem tickCapTimer_wdtPend (s : State) : (tickCapTimer s).wdtPend = s.wdtPend := rfl
@[simp] theorem tickCapTimer_capTimer (s : State) : (tickCapTimer s).capTimer = s.capTimer + 1 := rfl
@[simp] theorem tickCapTimer_capIe (s : State) : (tickCapTimer s).capIe = s.capIe := rfl
@[simp] theorem tickCapTimer_lastEdge (s : State) : (tickCapTimer s).lastEdge = s.lastEdge := rfl
@[simp] theorem tickCapTimer_thisEdge (s : State) : (tickCapTimer s).thisEdge = s.thisEdge := rfl
@[simp] theorem tickCapTimer_period (s : State) : (tickCapTimer s).period = s.period := rfl
@[simp] theorem tickCapTimer_detState (s : State) : (tickCapTimer s).detState = s.detState := rfl
@[simp] theorem tickCapTimer_instantHz (s : State) : (tickCapTimer s).instantHz = s.instantHz := rfl
@[simp] theorem tickCapTimer_runningSumHz (s : State) : (tickCapTimer s).runningSumHz = s.runningSumHz := rfl
@[simp] theorem tickCapTimer_sampleCount (s : State) : (tickCapTimer s).sampleCount = s.sampleCount := rfl
@[simp] theorem tickCapTimer_averagedHz (s : State) : (tickCapTimer s).averagedHz = s.averagedHz := rfl
@[simp] theorem tickCapTimer_trace (s : State) : (tickCapTimer s).trace = s.trace := rfl

/-! Taking a step off the schedule writes no register. -/

@[simp] theorem popSchedule_cfg (s : State) : (popSchedule s).cfg = s.cfg := rfl
@[simp] theorem popSchedule_schedule (s : State) : (popSchedule s).schedule = s.schedule.tail := rfl
@[simp] theorem popSchedule_motion (s : State) : (popSchedule s).motion = s.motion := rfl
@[simp] theorem popSchedule_gate (s : State) : (popSchedule s).gate = s.gate := rfl
@[simp] theorem popSchedule_cmdReg (s : State) : (popSchedule s).cmdReg = s.cmdReg := rfl
@[simp] theorem popSchedule_lineIe (s : State) : (popSchedule s).lineIe = s.lineIe := rfl
@[simp] theorem popSchedule_contPend (s : State) : (popSchedule s).contPend = s.contPend := rfl
@[simp] theorem popSchedule_actDuty (s : State) : (popSchedule s).actDuty = s.actDuty := rfl
@[simp] theorem popSchedule_scale (s : State) : (popSchedule s).scale = s.scale := rfl
@[simp] theorem popSchedule_dir (s : State) : (popSchedule s).dir = s.dir := rfl
@[simp] theorem popSchedule_pwmMode (s : State) : (popSchedule s).pwmMode = s.pwmMode := rfl
@[simp] theorem popSchedule_pwmCmp (s : State) : (popSchedule s).pwmCmp = s.pwmCmp := rfl
@[simp] theorem popSchedule_pwmCnt (s : State) : (popSchedule s).pwmCnt = s.pwmCnt := rfl
@[simp] theorem popSchedule_wdtArmed (s : State) : (popSchedule s).wdtArmed = s.wdtArmed := rfl
@[simp] theorem popSchedule_wdtTimeoutMs (s : State) : (popSchedule s).wdtTimeoutMs = s.wdtTimeoutMs := rfl
@[simp] theorem popSchedule_wdtCount (s : State) : (popSchedule s).wdtCount = s.wdtCount := rfl
@[simp] theorem popSchedule_wdtPend (s : State) : (popSchedule s).wdtPend = s.wdtPend := rfl
@[simp] theorem popSchedule_capTimer (s : State) : (popSchedule s).capTimer = s.capTimer := rfl
@[simp] theorem popSchedule_capIe (s : State) : (popSchedule s).capIe = s.capIe := rfl
@[simp] theorem popSchedule_lastEdge (s : State) : (popSchedule s).lastEdge = s.lastEdge := rfl
@[simp] theorem popSchedule_thisEdge (s : State) : (popSchedule s).thisEdge = s.thisEdge := rfl
@[simp] theorem popSchedule_period (s : State) : (popSchedule s).period = s.period := rfl
@[simp] theorem popSchedule_detState (s : State) : (popSchedule s).detState = s.detState := rfl
@[simp] theorem popSchedule_instantHz (s : State) : (popSchedule s).instantHz = s.instantHz := rfl
@[simp] theorem popSchedule_runningSumHz (s : State) : (popSchedule s).runningSumHz = s.runningSumHz := rfl
@[simp] theorem popSchedule_sampleCount (s : State) : (popSchedule s).sampleCount = s.sampleCount := rfl
@[simp] theorem popSchedule_averagedHz (s : State) : (popSchedule s).averagedHz = s.averagedHz := rfl
@[simp] theorem popSchedule_trace (s : State) : (popSchedule s).trace = s.trace := rfl

end Sys2Proof.Machine
end

