-- ==== Sys2Proof/Laws/Ops.lean ====
section
/-! SUPPORT. One lemma for each shared operation that says once everything it can do. -/

namespace Sys2Proof.Machine

/-! ## Configurations -/

/-- The period check, taken out of `Cfg.wf`. -/
theorem wf_period {c : Cfg} (h : c.wf = true) : 1 ≤ c.pwmPeriod ∧ c.pwmPeriod < 2 ^ 16 := by
  simp only [Cfg.wf, Cfg.periodOk, Bool.and_eq_true, decide_eq_true_eq] at h
  exact h.1.1.1.1.1.2

/-- The clock check. -/
theorem wf_clock {c : Cfg} (h : c.wf = true) :
    c.clockRateHz % 1000 = 0 ∧ 1000 ≤ c.clockRateHz ∧ c.clockRateHz < 2 ^ 32 := by
  simp only [Cfg.wf, Cfg.clockOk, Bool.and_eq_true, decide_eq_true_eq] at h
  exact ⟨h.1.1.1.1.1.1.1.1, h.1.1.1.1.1.1.1.2, h.1.1.1.1.1.1.2⟩

/-- The timeout check. -/
theorem wf_timeouts {c : Cfg} (h : c.wf = true) :
    1 ≤ c.t45Ms ∧ c.t45Ms < c.t90Ms ∧ c.t90Ms * ticksPerMs c < 2 ^ 32 := by
  simp only [Cfg.wf, Cfg.timeoutsOk, Bool.and_eq_true, decide_eq_true_eq] at h
  exact ⟨h.1.1.1.1.2.1.1, h.1.1.1.1.2.1.2, h.1.1.1.1.2.2⟩

/-- The warm-up check. -/
theorem wf_warmup {c : Cfg} (h : c.wf = true) : 1 ≤ c.warmup ∧ (c.warmup + 1) * c.hzCeiling < 2 ^ 32 := by
  simp only [Cfg.wf, Cfg.warmupOk, Bool.and_eq_true, decide_eq_true_eq] at h
  exact h.1.1.2

/-- The ceiling check. -/
theorem wf_ceiling {c : Cfg} (h : c.wf = true) : hiHz c ≤ c.hzCeiling ∧ c.hzCeiling < 2 ^ 32 := by
  simp only [Cfg.wf, Cfg.ceilingOk, Bool.and_eq_true, decide_eq_true_eq] at h
  exact h.1.2

/-- The opcodes check. -/
theorem wf_opcodes {c : Cfg} (h : c.wf = true) : c.opcodesOk = true := by
  simp only [Cfg.wf, Bool.and_eq_true] at h
  exact h.2

/-- A millisecond is at least one tick. -/
theorem ticksPerMs_pos {c : Cfg} (h : c.wf = true) : 1 ≤ ticksPerMs c := by
  have := (wf_clock h).2.1
  unfold ticksPerMs
  omega

/-- The load of a timeout not above `T90_MS` is exact (R102). -/
theorem wdtLoad_toNat {c : Cfg} (h : c.wf = true) {t : Nat} (ht : t ≤ c.t90Ms) :
    (wdtLoad c t).toNat = t * ticksPerMs c := by
  have h1 := (wf_timeouts h).2.2
  have h2 : t * ticksPerMs c ≤ c.t90Ms * ticksPerMs c := Nat.mul_le_mul_right _ ht
  simp only [wdtLoad, BitVec.toNat_ofNat]
  exact Nat.mod_eq_of_lt (by omega)

/-- A timeout not above `T90_MS` fits the register. -/
theorem timeout_toNat {c : Cfg} (h : c.wf = true) {t : Nat} (ht : t ≤ c.t90Ms) :
    (BitVec.ofNat 32 t).toNat = t := by
  have h1 := (wf_timeouts h).2.2
  have h2 : c.t90Ms * 1 ≤ c.t90Ms * ticksPerMs c := Nat.mul_le_mul_left _ (ticksPerMs_pos h)
  simp only [BitVec.toNat_ofNat]
  exact Nat.mod_eq_of_lt (by omega)

/-! ## The compare state -/

/-- The quotient of the threshold formula is below `P` for a duty of at most 99 (R140, R147). -/
theorem threshold_quotient_lt {p e : Nat} (hp : 1 ≤ p) (he : e ≤ 99) : e * p / 100 < p := by
  have : e * p ≤ 99 * p := Nat.mul_le_mul_right _ he
  omega

/-- `set_duty` writes the compare pair only, with the values of R138 to R140. -/
theorem setDuty_spec (e : Percent) (s : State) : ∃ m c,
    setDuty e s = { s with pwmMode := m, pwmCmp := c }
      ∧ (s.cfg.wf = true → PwmPairFor s.cfg e.val s.pwmCmp m c) := by
  unfold setDuty PwmPairFor
  split_ifs with h0 h1
  · exact ⟨.forcedLow, s.pwmCmp, rfl, fun _ => ⟨rfl, rfl⟩⟩
  · exact ⟨.forcedHigh, s.pwmCmp, rfl, fun _ => ⟨rfl, rfl⟩⟩
  · refine ⟨.compare, _, rfl, fun h => ⟨rfl, ?_⟩⟩
    have hp := (wf_period h).2
    simp only [BitVec.toNat_ofNat, compareThreshold]
    exact Nat.mod_eq_of_lt (by omega)

/-- `apply_duty` writes the compare pair only, from the effective duty (R148, R149). -/
theorem applyDuty_spec (s : State) : ∃ m c,
    applyDuty s = { s with pwmMode := m, pwmCmp := c }
      ∧ (s.cfg.wf = true → PwmPairFor s.cfg (effectiveOf s) s.pwmCmp m c) :=
  setDuty_spec _ s

/-- `stop(cause)`: the stop state and one event; the threshold stays (R156). -/
theorem stop_eq (cause : StopCause) (s : State) : stop cause s =
    { s with actDuty := 0, dir := 0b00, pwmMode := .forcedLow, trace := s.trace ++ [.stop cause] } := by
  simp [stop, emit, applyDuty, setDuty, effectiveDuty, stopDirCode]

/-- `drive(d, dir)` (R152). -/
theorem drive_spec (d : Percent) (h : Heading) (s : State) : ∃ m c,
    drive d h s = { s with dir := dirCode (headingDirection h), actDuty := d, pwmMode := m, pwmCmp := c }
      ∧ (s.cfg.wf = true → PwmPairFor s.cfg (d.val * s.scale.val / 100) s.pwmCmp m c) :=
  applyDuty_spec { s with dir := dirCode (headingDirection h), actDuty := d }

/-- `start_rotation(dir)` (R153). -/
theorem startRotation_spec (r : Rotation) (s : State) : ∃ m c,
    startRotation r s
        = { s with dir := dirCode (rotationDirection r), actDuty := s.cfg.rotDuty, pwmMode := m, pwmCmp := c }
      ∧ (s.cfg.wf = true → PwmPairFor s.cfg (s.cfg.rotDuty.val * s.scale.val / 100) s.pwmCmp m c) :=
  applyDuty_spec { s with dir := dirCode (rotationDirection r), actDuty := s.cfg.rotDuty }

/-- `rotate_toward_beacon()` (R154). -/
theorem rotateTowardBeacon_spec (s : State) : ∃ m c,
    rotateTowardBeacon s
        = { s with dir := dirCode (rotationDirection s.cfg.beaconDir), actDuty := s.cfg.rotDuty,
                   pwmMode := m, pwmCmp := c }
      ∧ (s.cfg.wf = true → PwmPairFor s.cfg (s.cfg.rotDuty.val * s.scale.val / 100) s.pwmCmp m c) :=
  startRotation_spec _ s

/-- `ad_sample(v)`: nothing, or the scale and the compare pair (R150). -/
theorem adSample_spec (v : AdValue) (s : State) :
    (100 < v.toNat ∧ adSample v s = s)
      ∨ ∃ p : Percent, ∃ m c, p.val = v.toNat
        ∧ adSample v s = { s with scale := p, pwmMode := m, pwmCmp := c }
        ∧ (s.cfg.wf = true → PwmPairFor s.cfg (s.actDuty.val * p.val / 100) s.pwmCmp m c) := by
  unfold adSample
  split_ifs with h
  · obtain ⟨m, c, h1, h2⟩ := applyDuty_spec { s with scale := ⟨v.toNat, h⟩ }
    exact .inr ⟨⟨v.toNat, h⟩, m, c, rfl, h1, h2⟩
  · exact .inl ⟨by omega, rfl⟩

/-! ## Handlers, dispatch and clock -/

/-- `wdt_isr()` (R107). -/
theorem wdtIsr_eq (s : State) : wdtIsr s =
    { s with wdtPend := false, actDuty := 0, dir := 0b00, pwmMode := .forcedLow, motion := .idle
             trace := s.trace ++ [.stop .wdtFire] } := by
  simp [wdtIsr, stop_eq]

/-- `converge()` (R129). -/
theorem converge_eq (s : State) : converge s =
    { s with capIe := false, contPend := false, actDuty := 0, dir := 0b00, pwmMode := .forcedLow
             detState := .converged, motion := .idle, trace := s.trace ++ [.stop .beaconConverged] } := by
  simp [converge, stop_eq]

/-- `line_done()` (R96). -/
theorem lineDone_eq (s : State) : lineDone s =
    if s.lineIe then
      { s with lineIe := false, actDuty := 0, dir := 0b00, pwmMode := .forcedLow, motion := .idle
               trace := s.trace ++ [.stop .lineDone] }
    else s := by
  simp [lineDone, stop_eq]

/-- The last action of a dispatch writes the trace only (R93). -/
theorem requestNext_eq (s : State) : requestNext s = { s with trace := requestTrace s.gate s.trace } := by
  unfold requestNext requestTrace emit
  split_ifs <;> rfl

/-- `retire()`: nothing live, and no register besides (R78). -/
theorem retire_eq (s : State) : retire s =
    { s with wdtArmed := false, wdtCount := 0, wdtPend := false, capIe := false, detState := .idle
             contPend := false, lineIe := false } := rfl

/-- The frame of a known command around its body (R76, R93). -/
theorem dispatchKnown_eq (b : Byte) (body : State → State) (s : State) : dispatchKnown b body s =
    { body (retire s) with
      cmdReg := b
      trace := requestTrace (body (retire s)).gate (body (retire s)).trace } := by
  rw [dispatchKnown, requestNext_eq]

/-- `publish_and_continue()` (R130). -/
theorem publishAndContinue_eq (s : State) : publishAndContinue s =
    { s with averagedHz := BitVec.ofNat 32 (s.runningSumHz.toNat / s.sampleCount.toNat), runningSumHz := 0
             contPend := true, trace := s.trace ++ [.continueAligning] } := rfl

/-- `tick_pwm` writes the counter only (R142). -/
theorem tickPwm_eq (s : State) : tickPwm s =
    { s with pwmCnt := if s.pwmCnt = 0 then BitVec.ofNat 16 (s.cfg.pwmPeriod - 1) else s.pwmCnt - 1 } := by
  unfold tickPwm
  split_ifs <;> rfl

/-- `tick_wdt` writes three watchdog registers only (R105). -/
theorem tickWdt_spec (s : State) : ∃ a n p, tickWdt s = { s with wdtArmed := a, wdtCount := n, wdtPend := p }
    ∧ ((s.wdtArmed = false ∧ a = false ∧ n = s.wdtCount ∧ p = s.wdtPend)
      ∨ (s.wdtArmed = true ∧ s.wdtCount.toNat ≤ 1 ∧ a = false ∧ n = 0 ∧ p = true)
      ∨ (s.wdtArmed = true ∧ 1 < s.wdtCount.toNat ∧ a = true ∧ n = s.wdtCount - 1 ∧ p = s.wdtPend)) := by
  unfold tickWdt
  split_ifs with h1 h2
  · exact ⟨false, 0, true, rfl, .inr (.inl ⟨h1, h2, rfl, rfl, rfl⟩)⟩
  · exact ⟨true, s.wdtCount - 1, s.wdtPend, by rw [← h1], .inr (.inr ⟨h1, by omega, rfl, rfl, rfl⟩)⟩
  · have h1' : s.wdtArmed = false := by simpa using h1
    exact ⟨false, s.wdtCount, s.wdtPend, by rw [← h1'], .inl ⟨h1', rfl, rfl, rfl⟩⟩

/-- A tick writes the two free-running counters and the watchdog (R190). -/
theorem tick_spec (s : State) : ∃ a n p, tick s = { s with
      pwmCnt := if s.pwmCnt = 0 then BitVec.ofNat 16 (s.cfg.pwmPeriod - 1) else s.pwmCnt - 1
      capTimer := s.capTimer + 1, wdtArmed := a, wdtCount := n, wdtPend := p }
    ∧ ((s.wdtArmed = false ∧ a = false ∧ n = s.wdtCount ∧ p = s.wdtPend)
      ∨ (s.wdtArmed = true ∧ s.wdtCount.toNat ≤ 1 ∧ a = false ∧ n = 0 ∧ p = true)
      ∨ (s.wdtArmed = true ∧ 1 < s.wdtCount.toNat ∧ a = true ∧ n = s.wdtCount - 1 ∧ p = s.wdtPend)) := by
  obtain ⟨a, n, p, h1, h2⟩ := tickWdt_spec (tickCapTimer (tickPwm s))
  refine ⟨a, n, p, ?_, ?_⟩
  · rw [tick, h1, tickPwm_eq]
    rfl
  · simpa [tickPwm_eq] using h2

/-- What a captured edge can do (R114, R120): a glitch, an accepted sample that is not tested, a convergence, or a
publish. -/
theorem edge_spec (s : State) :
    (s.capIe = false ∧ edge s = s)
    ∨ (s.capIe = true ∧ isGlitch s.cfg (wrapDiff s.capTimer s.thisEdge) = true ∧ edge s = captureEdge s)
    ∨ (s.capIe = true ∧ isGlitch s.cfg (wrapDiff s.capTimer s.thisEdge) = false
      ∧ ∃ hz a, hz = periodHz s.cfg (wrapDiff s.capTimer s.thisEdge) ∧ a = accumulate hz (captureEdge s)
        ∧ ((isTested s.cfg a.sampleCount = false ∧ edge s = a)
          ∨ (isTested s.cfg a.sampleCount = true ∧ inBand s.cfg hz = true ∧ edge s = converge a)
          ∨ (isTested s.cfg a.sampleCount = true ∧ inBand s.cfg hz = false ∧ edge s = publishAndContinue a))) := by
  cases h1 : s.capIe with
  | false => exact .inl ⟨rfl, by simp [edge, h1]⟩
  | true =>
    right
    cases h2 : isGlitch s.cfg (wrapDiff s.capTimer s.thisEdge) with
    | true => exact .inl ⟨rfl, rfl, by simp [edge, estimatorSample, h1, h2]⟩
    | false =>
      refine .inr ⟨rfl, rfl, _, _, rfl, rfl, ?_⟩
      have he : edge s = testSample (periodHz s.cfg (wrapDiff s.capTimer s.thisEdge))
          (accumulate (periodHz s.cfg (wrapDiff s.capTimer s.thisEdge)) (captureEdge s)) := by
        simp [edge, estimatorSample, h1, h2]
      rw [he, testSample, accumulate_cfg, captureEdge_cfg]
      cases h3 : isTested s.cfg
          (accumulate (periodHz s.cfg (wrapDiff s.capTimer s.thisEdge)) (captureEdge s)).sampleCount with
      | false => exact .inl ⟨rfl, by simp⟩
      | true =>
        cases h4 : inBand s.cfg (periodHz s.cfg (wrapDiff s.capTimer s.thisEdge)) with
        | true => exact .inr (.inl ⟨rfl, rfl, by simp⟩)
        | false => exact .inr (.inr ⟨rfl, rfl, by simp⟩)

/-- What `handle_continue` does: drop the event, and while aligning rotate and re-arm (R133). -/
theorem handleContinue_spec (s : State) :
    (s.motion ≠ .converging ∧ handleContinue s = { s with contPend := false })
      ∨ (s.motion = .converging ∧ ∃ m c, handleContinue s =
          { s with contPend := false, capIe := true, sampleCount := 0, runningSumHz := 0, detState := .searching
                   actDuty := s.cfg.rotDuty, dir := dirCode (rotationDirection s.cfg.beaconDir)
                   pwmMode := m, pwmCmp := c }
        ∧ (s.cfg.wf = true → PwmPairFor s.cfg (s.cfg.rotDuty.val * s.scale.val / 100) s.pwmCmp m c)) := by
  unfold handleContinue
  split_ifs with h
  · obtain ⟨m, c, h1, h2⟩ := rotateTowardBeacon_spec { s with contPend := false }
    exact .inr ⟨h, m, c, by rw [h1]; rfl, h2⟩
  · exact .inl ⟨h, rfl⟩

end Sys2Proof.Machine
end

