-- ==== Sys2Proof/Laws/PerInstr.lean ====
section
/-! SUPPORT. Statements about every instruction as syntax, one lemma per constructor. -/

namespace Sys2Proof.Laws

/-- Distinct images: a function is injective on a list whose images are distinct bytes. -/
theorem distinctBytes_map_injective {α : Type} (f : α → Byte) :
    ∀ l : List α, distinctBytes (l.map f) = true → ∀ i ∈ l, ∀ j ∈ l, f i = f j → i = j
  | [], _, i, hi, _, _, _ => by cases hi
  | a :: l, h, i, hi, j, hj, hf => by
    simp only [List.map_cons, distinctBytes, Bool.and_eq_true, Bool.not_eq_true', List.contains_eq_mem,
      decide_eq_false_iff_not, List.mem_map, not_exists, not_and] at h
    rcases List.mem_cons.1 hi with hia | hil <;> rcases List.mem_cons.1 hj with hja | hjl
    · exact hia.trans hja.symm
    · exact absurd (hia ▸ hf.symm) (h.1 j hjl)
    · exact absurd (hja ▸ hf) (h.1 i hil)
    · exact distinctBytes_map_injective f l h.2 i hil j hjl hf

/-- Every instruction stands in the list of all. -/
theorem mem_all (i : Instr) : i ∈ Instr.all := by cases i <;> decide

/-- Under a well-formed configuration no two instructions share a byte (spec/30_encoding.md R66). -/
theorem encode_injective {c : Cfg} (h : c.wf = true) {i j : Instr} (he : encode c i = encode c j) : i = j := by
  simp only [Cfg.wf, Bool.and_eq_true] at h
  exact distinctBytes_map_injective (encode c) Instr.all h.2 i (mem_all i) j (mem_all j) he

/-- Under a well-formed configuration the instruction is well formed: its byte is its own (R66). -/
def WellFormedInstr.Statement (i : Instr) : Prop := ∀ c : Cfg, c.wf = true → i.wf c = true

/-- The statement, once for all instructions. -/
theorem wellFormedInstr_of_wf (i : Instr) : WellFormedInstr.Statement i := by
  intro c h
  simp only [Instr.wf, List.all_eq_true, Bool.or_eq_true, decide_eq_true_eq]
  intro j _
  by_cases hj : j = i
  · exact .inl hj
  · exact .inr fun he => hj (encode_injective h he)

theorem WellFormedInstr.stop : WellFormedInstr.Statement .stop := wellFormedInstr_of_wf _

theorem WellFormedInstr.rotateCW90 : WellFormedInstr.Statement .rotateCW90 := wellFormedInstr_of_wf _

theorem WellFormedInstr.rotateCW45 : WellFormedInstr.Statement .rotateCW45 := wellFormedInstr_of_wf _

theorem WellFormedInstr.rotateCCW90 : WellFormedInstr.Statement .rotateCCW90 := wellFormedInstr_of_wf _

theorem WellFormedInstr.rotateCCW45 : WellFormedInstr.Statement .rotateCCW45 := wellFormedInstr_of_wf _

theorem WellFormedInstr.driveForwardHalf : WellFormedInstr.Statement .driveForwardHalf := wellFormedInstr_of_wf _

theorem WellFormedInstr.driveForwardFull : WellFormedInstr.Statement .driveForwardFull := wellFormedInstr_of_wf _

theorem WellFormedInstr.driveReverseHalf : WellFormedInstr.Statement .driveReverseHalf := wellFormedInstr_of_wf _

theorem WellFormedInstr.driveReverseFull : WellFormedInstr.Statement .driveReverseFull := wellFormedInstr_of_wf _

theorem WellFormedInstr.alignToBeacon : WellFormedInstr.Statement .alignToBeacon := wellFormedInstr_of_wf _

theorem WellFormedInstr.driveToLine : WellFormedInstr.Statement .driveToLine := wellFormedInstr_of_wf _

theorem WellFormedInstr.endRun : WellFormedInstr.Statement .endRun := wellFormedInstr_of_wf _

theorem WellFormedInstr.nocmd : WellFormedInstr.Statement .nocmd := wellFormedInstr_of_wf _

end Sys2Proof.Laws
end

