-- ==== Sys2Proof/Laws/Step.lean ====
section
/-! SUPPORT. Inversion lemmas for decoding and for the step of each agent, and runs: said once, cited everywhere. -/

namespace Sys2Proof.Machine

/-- Every instruction completes (spec/60_exceptions.md R161). -/
theorem exec_completes (i : Instr) (s : State) : ∃ t, exec i s = .next t := by
  cases i <;> exact ⟨_, rfl⟩

/-- What a dispatched byte can do (spec/40_dispatcher.md R76). -/
theorem dispatch_cases {b : Byte} {s t : State} (h : dispatch b s = .next t) :
    (∃ i, decode s.cfg b = .instr i ∧ exec i s = .next t)
      ∨ (∃ b', decode s.cfg b = .unknownOpcode b' ∧ t = { s with trace := requestTrace s.gate s.trace }) := by
  unfold dispatch at h
  split at h
  · exact .inl ⟨_, ‹_›, h⟩
  · simp only [dispatchUnknown, requestNext_eq, Host.Outcome.next.injEq] at h
    exact .inr ⟨_, ‹_›, h.symm⟩

/-- What one step of one agent can do (spec/00_scope.md R11). -/
theorem perform_cases {k : ScheduledStep} {s t : State} (h : perform k s = .next t) :
    s.cfg.wf = true ∧
    ((k = .tick ∧ t = tick s)
      ∨ (∃ b, k = .dispatch b ∧ dispatch b s = .next t)
      ∨ (k = .wdtIsr ∧ s.wdtPend = true ∧ t = wdtIsr s)
      ∨ (k = .edge ∧ t = edge s)
      ∨ (k = .handleContinue ∧ s.contPend = true ∧ t = handleContinue s)
      ∨ (k = .lineDone ∧ t = lineDone s)
      ∨ (∃ v, k = .adSample v ∧ t = adSample v s)
      ∨ (k = .reset ∧ t = performReset s)) := by
  cases hw : s.cfg.wf with
  | false => simp [perform, hw] at h
  | true =>
    refine ⟨rfl, ?_⟩
    cases k with
    | dispatch b => exact .inr (.inl ⟨b, rfl, by simpa [perform, hw] using h⟩)
    | wdtIsr =>
      cases hp : s.wdtPend <;> simp [perform, hw, wdtIsrEnabled, hp] at h
      simp [h]
    | handleContinue =>
      cases hp : s.contPend <;> simp [perform, hw, handleContinueEnabled, hp] at h
      simp [h]
    | _ => simp only [perform, hw, if_true, Host.Outcome.next.injEq] at h; simp [h]

/-- The step performs the next entry of the schedule. -/
theorem step_eq_perform (s : State) : step s = perform (nextStep s) (popSchedule s) := rfl

/-- A run of several steps is a run of the first and then of the rest. -/
theorem performAll_cons {k : ScheduledStep} {ks : List ScheduledStep} {s u : State}
    (h : performAll (k :: ks) s = .next u) : ∃ t, perform k s = .next t ∧ performAll ks t = .next u := by
  simp only [performAll] at h
  split at h
  · exact ⟨_, ‹_›, h⟩
  · cases h
  · cases h

/-- A run over a joined list is a run over the first and then over the second. -/
theorem performAll_append {ks ls : List ScheduledStep} {s u : State} (h : performAll (ks ++ ls) s = .next u) :
    ∃ t, performAll ks s = .next t ∧ performAll ls t = .next u := by
  induction ks generalizing s with
  | nil => exact ⟨s, rfl, h⟩
  | cons k ks ih =>
    obtain ⟨m, h1, h2⟩ := performAll_cons h
    obtain ⟨t, h3, h4⟩ := ih h2
    exact ⟨t, by simp [performAll, h1, h3], h4⟩

/-- An invariant of the steps of a run is an invariant of the run. `ok` says which steps the run takes. -/
theorem performAll_invariant {P : State → Prop} {ok : ScheduledStep → Prop}
    (hstep : ∀ k s t, ok k → P s → perform k s = .next t → P t) :
    ∀ (ks : List ScheduledStep) (s u : State), (∀ k ∈ ks, ok k) → P s → performAll ks s = .next u → P u
  | [], s, u, _, hp, h => by
    simp only [performAll, Host.Outcome.next.injEq] at h
    exact h ▸ hp
  | k :: ks, s, u, hok, hp, h => by
    obtain ⟨t, h1, h2⟩ := performAll_cons h
    exact performAll_invariant hstep ks t u (fun l hl => hok l (List.mem_cons_of_mem _ hl))
      (hstep k s t (hok k (List.mem_cons_self ..)) hp h1) h2

/-- A run of `n + 1` steps is a step and then a run of `n`. -/
theorem runFor_succ (n : Nat) (s : State) : runFor (n + 1) s =
    match step s with
    | .next s' => runFor n s'
    | .fault r => .fault r
    | .refused r => .refused r := rfl

/-- The model's run is the host's. -/
theorem runFor_eq_core_run (n : Nat) (s : Sys2Proof.core.State) : Sys2Proof.core.run n s = runFor n s := by
  induction n generalizing s with
  | zero => rfl
  | succ n ih =>
    rw [Host.Core.run]
    refine Eq.trans ?_ (runFor_succ n s).symm
    have hs : Sys2Proof.core.step s = step s := rfl
    rw [hs]
    cases step s with
    | next t => exact ih t
    | fault r => rfl
    | refused r => rfl

end Sys2Proof.Machine
end

