-- ==== Sys2Proof/Machine/Script.lean ====
section
/-! DEFINITION. The textual syntax: commands (spec/30_encoding.md R72) and event scripts (R73). A script is one
schedule of steps. -/

namespace Sys2Proof.Machine

/-- The mnemonic of an instruction, spelled as in spec/30_encoding.md R65. -/
def mnemonic : Instr → String
  | .stop => "Stop"
  | .rotateCW90 => "RotateCW90"
  | .rotateCW45 => "RotateCW45"
  | .rotateCCW90 => "RotateCCW90"
  | .rotateCCW45 => "RotateCCW45"
  | .driveForwardHalf => "DriveForwardHalf"
  | .driveForwardFull => "DriveForwardFull"
  | .driveReverseHalf => "DriveReverseHalf"
  | .driveReverseFull => "DriveReverseFull"
  | .alignToBeacon => "AlignToBeacon"
  | .driveToLine => "DriveToLine"
  | .endRun => "EndRun"
  | .nocmd => "NOCMD"

/-- A line of an event script (the table of R73). -/
inductive ScriptLine where
  /-- `<mnemonic>` or `NOCMD`. -/
  | command (i : Instr)
  /-- `BYTE 0xNN`. -/
  | rawByte (b : Byte)
  /-- `TICK n`. -/
  | ticks (n : Nat)
  /-- `EDGE`. -/
  | edge
  /-- `WDTISR`. -/
  | wdtIsr
  /-- `CONT`. -/
  | cont
  /-- `LINE`. -/
  | line
  /-- `AD v`. -/
  | ad (v : AdValue)
  /-- `RESET`. -/
  | reset
  deriving DecidableEq, Repr

/-- The steps of a line (R73). "Assembling a line yields the one byte OP_<mnemonic>, SENTINEL, or 0xNN" (R72). -/
def scriptSteps (c : Cfg) : ScriptLine → List ScheduledStep
  | .command i => [.dispatch (encode c i)]
  | .rawByte b => [.dispatch b]
  | .ticks n => List.replicate n .tick
  | .edge => [.edge]
  | .wdtIsr => [.wdtIsr]
  | .cont => [.handleContinue]
  | .line => [.lineDone]
  | .ad v => [.adSample v]
  | .reset => [.reset]

/-- The schedule of a script: its lines "executed in order" (R73). -/
def scriptSchedule (c : Cfg) (lines : List ScriptLine) : List ScheduledStep := lines.flatMap (scriptSteps c)

/-- The line without its comment: "; starts a comment that runs to the end of the line" (R72). -/
def stripComment (cs : List Char) : List Char := cs.takeWhile fun ch => !(ch == ';')

/-- The words of a line, and the word being read in reverse. -/
def wordsFrom : List Char → List Char → List (List Char)
  | [], acc => if acc.isEmpty then [] else [acc.reverse]
  | ch :: cs, acc =>
    if ch == ' ' || ch == '\t' then
      if acc.isEmpty then wordsFrom cs [] else acc.reverse :: wordsFrom cs []
    else wordsFrom cs (ch :: acc)

/-- The value of a hexadecimal digit (spec/00_scope.md R8). -/
def hexDigit (ch : Char) : Option Nat :=
  let n := ch.toNat
  if 48 ≤ n ∧ n ≤ 57 then some (n - 48)
  else if 65 ≤ n ∧ n ≤ 70 then some (n - 55)
  else if 97 ≤ n ∧ n ≤ 102 then some (n - 87)
  else none

/-- Decimal digits, most significant first, with `_` as a digit separator (spec/00_scope.md R8). -/
def decimalFrom : List Char → Nat → Option Nat
  | [], n => some n
  | ch :: cs, n =>
    if ch == '_' then decimalFrom cs n
    else if 48 ≤ ch.toNat ∧ ch.toNat ≤ 57 then decimalFrom cs (10 * n + (ch.toNat - 48))
    else none

/-- A plain decimal number; it begins with a digit. -/
def decimal : List Char → Option Nat
  | [] => none
  | ch :: cs => if ch == '_' then none else decimalFrom (ch :: cs) 0

/-- `0xNN`, two hexadecimal digits (R72). -/
def hexByte : List Char → Option Byte
  | [z, x, h, l] =>
    if z == '0' && x == 'x' then
      match hexDigit h, hexDigit l with
      | some a, some b => some (BitVec.ofNat 8 (16 * a + b))
      | _, _ => none
    else none
  | _ => none

/-- The instruction a word names; "mnemonics are case-sensitive" (R72). -/
def mnemonicInstr (w : List Char) : Option Instr := Instr.all.find? fun i => (mnemonic i).toList == w

/-- A line of one word. -/
def parseWord (w : List Char) : Option ScriptLine :=
  if w == "EDGE".toList then some .edge
  else if w == "WDTISR".toList then some .wdtIsr
  else if w == "CONT".toList then some .cont
  else if w == "LINE".toList then some .line
  else if w == "RESET".toList then some .reset
  else (mnemonicInstr w).map .command

/-- A line of a word and an argument. -/
def parsePair (w arg : List Char) : Option ScriptLine :=
  if w == "TICK".toList then (decimal arg).map .ticks
  else if w == "BYTE".toList then (hexByte arg).map .rawByte
  else if w == "AD".toList then
    match decimal arg with
    | some v => if v < 128 then some (.ad (BitVec.ofNat 7 v)) else none
    | none => none
  else none

/-- A line of text (R72, R73); `none` where it is ill formed. -/
def parseLine (text : String) : Option ScriptLine :=
  match wordsFrom (stripComment text.toList) [] with
  | [w] => parseWord w
  | [w, arg] => parsePair w arg
  | _ => none

/-- A text has no line on it: nothing but blanks and a comment. DESIGN CHOICE, safe: notes/assumptions/15.md. -/
def blankLine (text : String) : Bool := (wordsFrom (stripComment text.toList) []).isEmpty

/-- An event script, one event a line, the blank lines left out. -/
def parseScript (lines : List String) : Option (List ScriptLine) :=
  (lines.filter fun t => !(blankLine t)).mapM parseLine

end Sys2Proof.Machine
end

