-- ==== Sys2Proof/Tests/Slice0.lean ====
section
/-! SUPPORT. The package's own tests. Expected values come from spec/95_test_vectors.md and spec/30_encoding.md, not
from the model. A theorem named witness_<statement> shows a state and operands that meet the hypotheses of that
statement of Sys2Proof/Certificates/Slice0/Obligations.lean, one for each clause that has its own. -/

namespace Sys2Proof.Tests

open Sys2Proof Sys2Proof.Machine

/-- The state after one step, or the same state where the step is refused. -/
def after (k : ScheduledStep) (s : State) : State :=
  match perform k s with
  | .next t => t
  | _ => s

/-- The small configuration of spec/95_test_vectors.md section 4. -/
def tinyCfg : Cfg :=
  { Cfg.reference with
    clockRateHz := 4000, pwmPeriod := 7, t45Ms := 2, t90Ms := 4, warmup := 1, hzCeiling := 3000 }

/-- The reset state of the reference instantiation. -/
def ref : State := State.reset

/-- The reset state of the small configuration. -/
def tiny : State := State.resetWith tinyCfg

/-- The reference machine in an alignment, with `count` samples of sum `sum` and the counter `gap` past the edge. -/
def searching (count sum gap : Nat) : State :=
  { after (.dispatch 0x09) ref with
    sampleCount := BitVec.ofNat 32 count, runningSumHz := BitVec.ofNat 32 sum, capTimer := BitVec.ofNat 32 gap }

/-- The reference machine with a rotation's watchdog expired. -/
def expired : State :=
  { after (.dispatch 0x01) ref with wdtArmed := false, wdtCount := 0, wdtPend := true }

/-! ## Well-formedness: each check refuses an ill-formed configuration -/

theorem test_reference_wf : Cfg.reference.wf = true := by decide

theorem test_tiny_wf : tinyCfg.wf = true := by decide

theorem test_clock_not_multiple : Cfg.clockOk { Cfg.reference with clockRateHz := 999 } = false := by decide

theorem test_period_zero : Cfg.periodOk { Cfg.reference with pwmPeriod := 0 } = false := by decide

theorem test_period_too_long : Cfg.periodOk { Cfg.reference with pwmPeriod := 65536 } = false := by decide

theorem test_timeouts_not_increasing : Cfg.timeoutsOk { Cfg.reference with t45Ms := 1000 } = false := by decide

theorem test_target_zero : Cfg.bandOk { Cfg.reference with targetHz := 0 } = false := by decide

theorem test_tolerance_above_100 : Cfg.bandOk { Cfg.reference with tolPct := 101 } = false := by decide

theorem test_warmup_zero : Cfg.warmupOk { Cfg.reference with warmup := 0 } = false := by decide

theorem test_ceiling_below_band : Cfg.ceilingOk { Cfg.reference with hzCeiling := 2339 } = false := by decide

theorem test_opcode_is_sentinel : Cfg.opcodesOk { Cfg.reference with opEndRun := 0xFF } = false := by decide

theorem test_ill_formed_refused : Cfg.wf { Cfg.reference with warmup := 0 } = false := by decide

theorem test_instr_shared_byte : Instr.wf { Cfg.reference with opStop := 0x01 } .stop = false := by decide

theorem test_ill_formed_step : perform .tick { ref with cfg := { Cfg.reference with pwmPeriod := 0 } }
    = .refused .illFormedConfig := rfl

/-! ## Decoding: the byte of every row, written out from spec/30_encoding.md R65 and R67 -/

theorem test_decode_stop : decodeTableWord 8 0b00000000 = some .stop := by decide

theorem test_decode_rotateCW90 : decodeTableWord 8 0b00000001 = some .rotateCW90 := by decide

theorem test_decode_rotateCW45 : decodeTableWord 8 0b00000010 = some .rotateCW45 := by decide

theorem test_decode_rotateCCW90 : decodeTableWord 8 0b00000011 = some .rotateCCW90 := by decide

theorem test_decode_rotateCCW45 : decodeTableWord 8 0b00000100 = some .rotateCCW45 := by decide

theorem test_decode_driveForwardHalf : decodeTableWord 8 0b00000101 = some .driveForwardHalf := by decide

theorem test_decode_driveForwardFull : decodeTableWord 8 0b00000110 = some .driveForwardFull := by decide

theorem test_decode_driveReverseHalf : decodeTableWord 8 0b00000111 = some .driveReverseHalf := by decide

theorem test_decode_driveReverseFull : decodeTableWord 8 0b00001000 = some .driveReverseFull := by decide

theorem test_decode_alignToBeacon : decodeTableWord 8 0b00001001 = some .alignToBeacon := by decide

theorem test_decode_driveToLine : decodeTableWord 8 0b00001010 = some .driveToLine := by decide

theorem test_decode_endRun : decodeTableWord 8 0b00001011 = some .endRun := by decide

theorem test_decode_nocmd : decodeTableWord 8 0b11111111 = some .nocmd := by decide

theorem test_decode_unknown : [0x0C, 0x10, 0x7E, 0x80, 0xFE].map (decodeTableWord 8) = List.replicate 5 none := by
  decide

/-- The sparse assignment of spec/93_implementation_defined.md U12: the semantics follows the name, not the byte. -/
theorem test_decode_other_assignment :
    let c := { Cfg.reference with opAlignToBeacon := 0x20, opRotateCW90 := 0x02, opRotateCW45 := 0x30 }
    decode c 0x20 = .instr .alignToBeacon ∧ decode c 0x01 = .unknownOpcode 0x01 ∧ decode c 0xFF = .instr .nocmd := by
  decide

/-! ## The commands from reset (the table of spec/95_test_vectors.md section 2.2) -/

/-- The registers the table of section 2.2 lists for each command. -/
def row (s : State) : Motion × Nat × BitVec 2 × PwmMode × Nat × List TraceEvent :=
  (s.motion, s.actDuty.val, s.dir, s.pwmMode, s.pwmCmp.toNat, s.trace)

theorem test_stop_row : row (after (.dispatch 0x00) ref)
    = (.idle, 0, 0b00, .forcedLow, 1250, [.stop .cmd, .reqNext]) := by decide

theorem test_rotateCW90_row : row (after (.dispatch 0x01) ref)
    = (.executing, 50, 0b10, .compare, 625, [.reqNext]) := by decide

theorem test_rotateCW90_watchdog : (after (.dispatch 0x01) ref).wdtCount = 40000000 := by decide

theorem test_rotateCW45_row : row (after (.dispatch 0x02) ref)
    = (.executing, 50, 0b10, .compare, 625, [.reqNext]) := by decide

theorem test_rotateCW45_watchdog : (after (.dispatch 0x02) ref).wdtCount = 20000000 := by decide

theorem test_rotateCCW90_row : row (after (.dispatch 0x03) ref)
    = (.executing, 50, 0b01, .compare, 625, [.reqNext]) := by decide

theorem test_rotateCCW90_watchdog : (after (.dispatch 0x03) ref).wdtTimeoutMs = 1000 := by decide

theorem test_rotateCCW45_row : row (after (.dispatch 0x04) ref)
    = (.executing, 50, 0b01, .compare, 625, [.reqNext]) := by decide

theorem test_rotateCCW45_watchdog : (after (.dispatch 0x04) ref).wdtTimeoutMs = 500 := by decide

theorem test_driveForwardHalf_row : row (after (.dispatch 0x05) ref)
    = (.executing, 50, 0b00, .compare, 625, [.reqNext]) := by decide

theorem test_driveForwardFull_row : row (after (.dispatch 0x06) ref)
    = (.executing, 100, 0b00, .forcedHigh, 1250, [.reqNext]) := by decide

theorem test_driveReverseHalf_row : row (after (.dispatch 0x07) ref)
    = (.executing, 50, 0b11, .compare, 625, [.reqNext]) := by decide

theorem test_driveReverseFull_row : row (after (.dispatch 0x08) ref)
    = (.executing, 100, 0b11, .forcedHigh, 1250, [.reqNext]) := by decide

theorem test_alignToBeacon_row : row (after (.dispatch 0x09) ref)
    = (.converging, 50, 0b10, .compare, 625, [.reqNext]) := by decide

theorem test_alignToBeacon_detector :
    (after (.dispatch 0x09) ref).capIe = true ∧ (after (.dispatch 0x09) ref).detState = .searching := by decide

theorem test_driveToLine_row : row (after (.dispatch 0x0A) ref)
    = (.executing, 100, 0b00, .forcedHigh, 1250, [.reqNext]) := by decide

theorem test_driveToLine_enable : (after (.dispatch 0x0A) ref).lineIe = true := by decide

theorem test_endRun_row : row (after (.dispatch 0x0B) ref)
    = (.idle, 0, 0b00, .forcedLow, 1250, [.stop .cmd]) := by decide

theorem test_endRun_gate : (after (.dispatch 0x0B) ref).gate = false := by decide

theorem test_nocmd_nothing : after (.dispatch 0xFF) ref = ref := by decide

theorem test_unknown_only_requests : after (.dispatch 0x7E) ref = { ref with trace := [.reqNext] } := by decide

/-! ## The other agents (spec/95_test_vectors.md sections 2.4 to 2.9) -/

/-- W1: a command withdraws an expiry whose handler has not run. -/
theorem test_stop_withdraws_expiry : (after (.dispatch 0x00) expired).wdtPend = false := by decide

/-- W3: the handler stops, keeps `CMD_REG` and requests nothing. -/
theorem test_wdtIsr : (after .wdtIsr expired).cmdReg = 0x01
    ∧ row (after .wdtIsr expired) = (.idle, 0, 0b00, .forcedLow, 625, [.reqNext, .stop .wdtFire]) := by decide

/-- Section 2.5: the wraparound-aware difference. -/
theorem test_wrapDiff : wrapDiff 0x00004D20 0xFFFFFF00 = 20000 ∧ wrapDiff 5 5 = 0 ∧ wrapDiff 0 0xFFFFFFFF = 1
    ∧ wrapDiff 0 1 = 0xFFFFFFFF := by decide

/-- Section 2.6: frequency and classification of a period. -/
theorem test_classes : [0, 1, 3999, 4000].map (isGlitch Cfg.reference) = [true, true, true, false]
    ∧ [17086, 17094, 20512, 25641, 25642].map (fun p => periodHz Cfg.reference p) = [2341, 2340, 1950, 1560, 1559]
    ∧ [2341, 2340, 1560, 1559].map (inBand Cfg.reference) = [false, true, true, false] := by decide

/-- S3: the third accepted sample is not tested, a glitch moves the time stamps only. -/
theorem test_warmup_sample : (after .edge (searching 2 4000 20000)).detState = .searching
    ∧ (after .edge (searching 2 4000 20000)).runningSumHz = 6000 := by decide

theorem test_glitch_sample : (after .edge (searching 3 6000 3999)).sampleCount = 3
    ∧ (after .edge (searching 3 6000 3999)).thisEdge = 3999 := by decide

/-- S4: the fourth, in band, converges. -/
theorem test_converge : (after .edge (searching 3 9000 20000)).detState = .converged
    ∧ (after .edge (searching 3 9000 20000)).trace = [.reqNext, .stop .beaconConverged] := by decide

/-- S5: the fourth, out of band, publishes; the next, with the self-event pending, publishes 600. -/
theorem test_publish : (after .edge (searching 3 9000 13333)).averagedHz = 3000
    ∧ (after .edge (searching 4 0 13333)).averagedHz = 600 := by decide

/-- Section 2.7: the threshold for three periods. -/
theorem test_threshold : [1, 33, 50, 99].map (compareThreshold 1250) = [1238, 838, 625, 13]
    ∧ [1, 30, 99].map (compareThreshold 7) = [7, 5, 1] ∧ compareThreshold 65535 9 = 59637 := by decide

/-- Section 2.7: the waveform for P = 7 and 50 percent (threshold 4): three high ticks, edge-aligned. -/
theorem test_waveform :
    pwmWave 7 (after (.dispatch 0x05) tiny) = [true, true, true, false, false, false, false] := by decide

/-- A1: the scaling input. -/
theorem test_adSample : (after (.adSample 99) (after (.dispatch 0x08) ref)).pwmCmp = 13
    ∧ after (.adSample 127) ref = ref ∧ (after (.adSample 37) ref).pwmMode = .forcedLow := by decide

/-- P4: the line event, and the stale one after it. -/
theorem test_lineDone : row (after .lineDone (after (.dispatch 0x0A) ref))
    = (.idle, 0, 0b00, .forcedLow, 1250, [.reqNext, .stop .lineDone]) ∧ after .lineDone ref = ref := by decide

/-- Section 2.9: one tick from reset. -/
theorem test_tick : after .tick ref = { ref with pwmCnt := 1248, capTimer := 1 } := by decide

/-- Section 2.9: `RESET` gives the reset state and an empty trace. -/
theorem test_reset : after .reset (after (.dispatch 0x0B) ref) = ref := by decide

/-! ## The interface and the textual syntax -/

theorem test_fetch_rotate : ∃ t, step (State.reset.withFetchWord 8 0x01) = .next t ∧ t.cmdReg = 0x01 :=
  ⟨_, rfl, by decide⟩

theorem test_empty_schedule_ticks : ∃ t, step State.reset = .next t ∧ t.capTimer = 1 := ⟨_, rfl, by decide⟩

theorem test_parse_lines : parseLine "TICK 39_999_999 ; expiry" = some (.ticks 39999999)
    ∧ parseLine "BYTE 0x7E" = some (.rawByte 0x7E) ∧ parseLine "rotateCW90" = none := by decide

theorem test_parse_script : (parseScript ["RotateCW90 ; 0x01", "", "WDTISR", "AD 50"]).map (scriptSchedule Cfg.reference)
    = some [.dispatch 0x01, .wdtIsr, .adSample 50] := by decide

theorem test_assemble_all : Instr.all.map (fun i => parseLine (mnemonic i)) = Instr.all.map fun i => some (.command i) := by
  decide

/-! ## Witnesses: encoding and the step -/

theorem witness_DecodeInvertsEncode : Instr.wf Cfg.reference .stop = true ∧ Instr.wf Cfg.reference .nocmd = true := by
  decide

theorem witness_EncodeInvertsDecode : decode Cfg.reference 0x0B = .instr .endRun := by decide

theorem witness_DecodeFollowsItsOrder : Cfg.reference.wf = true ∧ (0xFF : Byte) = Cfg.reference.sentinel
    ∧ encode Cfg.reference .endRun = 0x0B ∧ ∀ i ∈ Instr.all, encode Cfg.reference i ≠ 0x0C := by decide

theorem witness_UnknownOpcodesAreTheRest :
    decode Cfg.reference 0x0C = .unknownOpcode 0x0C ∧ decode Cfg.reference 0xFE = .unknownOpcode 0xFE := by decide

theorem witness_StepRunsDecodedInstruction : ref.cfg.wf = true
    ∧ (State.reset.withFetchWord 8 0x09).schedule = .dispatch 0x09 :: []
    ∧ decode ref.cfg 0x09 = .instr .alignToBeacon := by decide

theorem witness_UnknownOpcodeOnlyRequests : ref.cfg.wf = true ∧ decode ref.cfg 0x7E = .unknownOpcode 0x7E := by decide

theorem witness_StepsPerformTheSchedule : ref.cfg.wf = true ∧ ref.schedule = [] := by decide

theorem witness_EveryEnabledStepCompletes : ref.cfg.wf = true ∧ ref.wdtPend = false ∧ ref.contPend = false := by decide

/-! ## Witnesses: the instructions -/

theorem witness_RotateCommandsResult : tiny.cfg.wf = true := by decide

theorem witness_DriveCommandsResult : tiny.cfg.wf = true := by decide

theorem witness_DriveToLineCommandResult : ref.cfg.wf = true := by decide

theorem witness_AlignToBeaconCommandResult : ref.cfg.wf = true := by decide

theorem witness_NocmdChangesNothing : ref.cfg.wf = true ∧ decode ref.cfg 0xFF = .instr .nocmd := by decide

/-- A rotation under a stale line event, and a drive to the line under unknown bytes. -/
theorem witness_CommandLivesUntilItsEnd : tiny.cfg.wf = true
    ∧ (∃ t, exec .rotateCW45 tiny = .next t
      ∧ (∀ k ∈ [ScheduledStep.tick, .lineDone],
          dispatchesKnown tiny.cfg k = false ∧ k ≠ .reset ∧ ownEnd .rotateCW45 ≠ some k)
      ∧ ∃ u, performAll [.tick, .lineDone] t = .next u)
    ∧ ∃ t, exec .driveToLine tiny = .next t
      ∧ (∀ k ∈ [ScheduledStep.dispatch 0x7E, .edge],
          dispatchesKnown tiny.cfg k = false ∧ k ≠ .reset ∧ ownEnd .driveToLine ≠ some k)
      ∧ ∃ u, performAll [.dispatch 0x7E, .edge] t = .next u :=
  ⟨by decide, ⟨_, rfl, by decide, _, rfl⟩, _, rfl, by decide, _, rfl⟩

theorem witness_CommandsAgreeWithTable : ref.cfg.wf = true
    ∧ commandRow ref.cfg .rotateCW45 = some ⟨some 500, 50, 0b10, false, false, false⟩
    ∧ ∃ t, exec .rotateCW45 ref = .next t := ⟨by decide, by decide, _, rfl⟩

theorem witness_CommandsAgreeWithTable_noTimeout :
    commandRow ref.cfg .endRun = some ⟨none, 0, 0b00, false, false, true⟩ ∧ ∃ t, exec .endRun ref = .next t :=
  ⟨by decide, _, rfl⟩

/-! ## Witnesses: the other agents -/

theorem witness_WatchdogHandlerResult : ref.cfg.wf = true ∧ expired.wdtPend = true ∧ ref.wdtPend = false := by decide

/-- The boundary counts 0, 1 and 2 of an armed watchdog, and a disarmed one. -/
theorem witness_TickResult : ref.cfg.wf = true ∧ ref.wdtArmed = false
    ∧ ∀ n ∈ [0, 1, 2], ({ wdtArm 1 ref with wdtCount := BitVec.ofNat 32 n }).wdtArmed = true
      ∧ ({ wdtArm 1 ref with wdtCount := BitVec.ofNat 32 n }).wdtCount.toNat = n := by decide

theorem witness_EdgeIgnoredWhenDisabled : ref.cfg.wf = true ∧ ref.capIe = false := by decide

/-- A zero period, and the first frequency above the ceiling that a period gives (3999 ticks). -/
theorem witness_GlitchMovesOnlyTimeStamps : (searching 3 6000 0).cfg.wf = true ∧ (searching 3 6000 0).capIe = true
    ∧ ((searching 3 6000 0).capTimer - (searching 3 6000 0).thisEdge).toNat = 0
    ∧ (searching 3 6000 3999).cfg.hzCeiling
      < (searching 3 6000 3999).cfg.clockRateHz
        / ((searching 3 6000 3999).capTimer - (searching 3 6000 3999).thisEdge).toNat := by decide

/-- The last sample of the warm-up, at the ceiling itself. -/
theorem witness_WarmupSampleAccumulates :
    let s := searching 2 4000 4000
    s.cfg.wf = true ∧ s.capIe = true ∧ s.capTimer ≠ s.thisEdge
      ∧ 10000 = s.cfg.clockRateHz / (s.capTimer - s.thisEdge).toNat ∧ 10000 ≤ s.cfg.hzCeiling
      ∧ (s.sampleCount.toNat + 1) % 2 ^ 32 ≤ s.cfg.warmup := by decide

/-- Both ends of the band, 1560 Hz and 2340 Hz, right after the warm-up. -/
theorem witness_InBandSampleConverges : ∀ g ∈ [25641, 17094],
    let s := searching 3 9000 g
    let hz := s.cfg.clockRateHz / (s.capTimer - s.thisEdge).toNat
    s.cfg.wf = true ∧ s.capIe = true ∧ s.capTimer ≠ s.thisEdge
      ∧ s.cfg.warmup < (s.sampleCount.toNat + 1) % 2 ^ 32
      ∧ s.cfg.targetHz - s.cfg.targetHz * s.cfg.tolPct / 100 ≤ hz
      ∧ hz ≤ s.cfg.targetHz + s.cfg.targetHz * s.cfg.tolPct / 100
      ∧ (hz = 1560 ∨ hz = 2340) := by decide

/-- Both neighbours of the band, 1559 Hz and 2341 Hz. -/
theorem witness_OutOfBandSamplePublishes : ∀ g ∈ [25642, 17086],
    let s := searching 3 9000 g
    let hz := s.cfg.clockRateHz / (s.capTimer - s.thisEdge).toNat
    s.cfg.wf = true ∧ s.capIe = true ∧ s.capTimer ≠ s.thisEdge ∧ hz ≤ s.cfg.hzCeiling
      ∧ s.cfg.warmup < (s.sampleCount.toNat + 1) % 2 ^ 32
      ∧ (hz < s.cfg.targetHz - s.cfg.targetHz * s.cfg.tolPct / 100
        ∨ s.cfg.targetHz + s.cfg.targetHz * s.cfg.tolPct / 100 < hz) := by decide

/-- The three clauses: no event, an event outside an alignment, an event inside one. -/
theorem witness_ContinueHandlerResult : ref.cfg.wf = true ∧ ref.contPend = false
    ∧ ({ ref with contPend := true }).motion ≠ .converging
    ∧ (after .edge (searching 3 9000 13333)).contPend = true
    ∧ (after .edge (searching 3 9000 13333)).motion = .converging := by decide

theorem witness_LineEventResult : ref.cfg.wf = true ∧ (after (.dispatch 0x0A) ref).lineIe = true ∧ ref.lineIe = false := by
  decide

/-- The boundary values 100 and 101. -/
theorem witness_ScalingInputResult : ref.cfg.wf = true ∧ (100 : AdValue).toNat ≤ 100 ∧ 100 < (101 : AdValue).toNat := by
  decide

theorem witness_ResetStepResult : ref.cfg.wf = true := by decide

theorem witness_ResetStateIsSafe : tinyCfg.wf = true := by decide

/-! ## Witnesses: the PWM Generator, the clock and the watchdog -/

theorem witness_SetDutyThreshold : tiny.cfg.wf = true ∧ (1 ≤ (1 : Percent).val ∧ (1 : Percent).val ≤ 99)
    ∧ (1 ≤ (99 : Percent).val ∧ (99 : Percent).val ≤ 99)
    ∧ (1 : Percent).val * tiny.cfg.pwmPeriod < 100 ∧ tiny.pwmCnt.toNat < tiny.cfg.pwmPeriod := by decide

theorem witness_WaveformIsEdgeAligned :
    let s := after (.dispatch 0x05) tiny
    s.cfg.wf = true ∧ s.pwmMode = .compare ∧ s.pwmCmp.toNat ≤ s.cfg.pwmPeriod
      ∧ s.pwmCnt.toNat = s.cfg.pwmPeriod - 1 := by decide

/-- The first and the last phase of a period. -/
theorem witness_HighTicksPerPeriod : tiny.cfg.wf = true ∧ tiny.pwmCnt.toNat < tiny.cfg.pwmPeriod
    ∧ ({ tiny with pwmCnt := 0 }).pwmCnt.toNat < tiny.cfg.pwmPeriod := by decide

theorem witness_TicksAtOnceAreTicks : tiny.cfg.wf = true ∧ 1 ≤ 8 ∧ tiny.pwmCnt.toNat < tiny.cfg.pwmPeriod := by decide

/-- The last tick before the expiry and the expiry itself. -/
theorem witness_WatchdogExpiresAtItsLoad : 1 ≤ (wdtLoad tiny.cfg 2).toNat ∧ 7 < (wdtLoad tiny.cfg 2).toNat
    ∧ (wdtLoad tiny.cfg 2).toNat ≤ 8 := by decide

theorem witness_CancelledWatchdogNeverFires : ref.wdtArmed = false ∧ ref.wdtPend = false
    ∧ (∀ k ∈ [ScheduledStep.dispatch 0x05, .tick], dispatchesRotate ref.cfg k = false ∧ k ≠ .reset)
    ∧ ∃ t, performAll [.dispatch 0x05, .tick] ref = .next t := ⟨by decide, by decide, by decide, _, rfl⟩

/-- An expiry that the run serves. -/
theorem witness_AtMostOneFirePerArm : expired.wdtArmed = false
    ∧ (∀ k ∈ [ScheduledStep.tick, .wdtIsr], dispatchesRotate expired.cfg k = false ∧ k ≠ .reset)
    ∧ ∃ t, performAll [.tick, .wdtIsr] expired = .next t := ⟨by decide, by decide, _, rfl⟩

theorem witness_KnownCommandRetiresEverything : isKnownByte expired.cfg 0x05 = true
    ∧ (0x05 : Byte) ≠ expired.cfg.opAlignToBeacon ∧ (0x05 : Byte) ≠ expired.cfg.opDriveToLine
    ∧ ∃ t, perform (.dispatch 0x05) expired = .next t := ⟨by decide, by decide, by decide, _, rfl⟩

/-- The small configuration with one tick a millisecond, so that a 45 degree rotation lasts one tick. -/
def fireCfg : Cfg := { tinyCfg with clockRateHz := 1000, t45Ms := 1, t90Ms := 2 }

theorem test_fireCfg_wf : fireCfg.wf = true := by decide

/-- A schedule that arms that machine's watchdog, lets it expire at the next tick and serves it. -/
def fireSteps : Nat → ScheduledStep
  | 0 => .dispatch 0x02
  | 2 => .wdtIsr
  | _ => .tick

/-- The states of the execution with that schedule. -/
def fireRun : Nat → State
  | 0 => State.resetWith fireCfg
  | n + 1 => after (fireSteps n) (fireRun n)

/-- Once served, the watchdog stays quiet. -/
theorem fireRun_quiet (n : Nat) : (fireRun (n + 3)).cfg = fireCfg ∧ (fireRun (n + 3)).wdtArmed = false
    ∧ (fireRun (n + 3)).wdtPend = false ∧ (fireRun (n + 3)).contPend = false := by
  induction n with
  | zero => decide
  | succ n ih =>
    obtain ⟨h1, h2, h3, h4⟩ := ih
    obtain ⟨a, m, p, ht, hc⟩ := tick_spec (fireRun (n + 3))
    have he : fireRun (n + 1 + 3) = tick (fireRun (n + 3)) := by
      show after .tick (fireRun (n + 3)) = _
      simp [after, perform, h1, test_fireCfg_wf]
    rw [he, ht]
    rcases hc with ⟨_, ha, _, hp⟩ | ⟨ha, _⟩ | ⟨ha, _⟩
    · exact ⟨h1, ha, hp.trans h3, h4⟩
    · rw [h2] at ha; cases ha
    · rw [h2] at ha; cases ha

/-- A fair execution in which an expiry is pending in state 2 and is served by the next step. -/
theorem witness_PendingExpiryIsSettled :
    IsExecution fireCfg fireRun fireSteps ∧ Fair fireRun ∧ (fireRun 2).wdtPend = true := by
  refine ⟨⟨rfl, fun n => ?_⟩, fun n => ⟨⟨n + 3, by omega, ?_⟩, ⟨n + 3, by omega, ?_⟩⟩, by decide⟩
  · match n with
    | 0 => rfl
    | 1 => rfl
    | 2 => rfl
    | m + 3 =>
      show perform .tick (fireRun (m + 3)) = .next (after .tick (fireRun (m + 3)))
      simp [after, perform, (fireRun_quiet m).1, test_fireCfg_wf]
  · exact (fireRun_quiet n).2.2.1
  · exact (fireRun_quiet n).2.2.2

/-! ## Witnesses: the beacon detector and the dispatcher -/

theorem witness_PeriodOfTwoEdges : (searching 0 0 5).capIe = true
    ∧ (∃ t, perform .edge (searching 0 0 5) = .next t ∧ t.capIe = true
      ∧ ∃ u, performAll (List.replicate 3 .tick ++ [.edge]) t = .next u) := ⟨by decide, _, rfl, by decide, _, rfl⟩

/-- The bound holds in an alignment's first state, and an accepted edge is taken from it. -/
theorem witness_RunningSumNeverWraps : SumBound (searching 0 0 20000)
    ∧ (searching 0 0 20000).sampleCount.toNat + 1 < 2 ^ 32
    ∧ (searching 0 0 20000).capIe = true
    ∧ isGlitch (searching 0 0 20000).cfg
        (wrapDiff (searching 0 0 20000).capTimer (searching 0 0 20000).thisEdge) = false
    ∧ ∃ t, perform .edge (searching 0 0 20000) = .next t :=
  ⟨⟨by decide, by decide, by decide⟩, by decide, by decide, by decide, _, rfl⟩

theorem witness_FirstInBandSampleStopsOnce :
    let s := searching 3 9000 20000
    s.cfg.wf = true ∧ s.capIe = true ∧ s.cfg.warmup ≤ s.sampleCount.toNat ∧ s.sampleCount.toNat + 1 < 2 ^ 32
      ∧ s.capTimer ≠ s.thisEdge ∧ inBand s.cfg (s.cfg.clockRateHz / (s.capTimer - s.thisEdge).toNat) = true
      ∧ (∀ k ∈ [ScheduledStep.tick, .edge], k = .tick ∨ k = .edge)
      ∧ ∃ u, performAll [.edge, .tick, .edge] s = .next u :=
  ⟨by decide, by decide, by decide, by decide, by decide, by decide, by decide, _, rfl⟩

theorem witness_OutOfBandRunNeverStops : (searching 3 9000 13333).motion = .converging
    ∧ OutOfBandRun [.edge, .handleContinue] (searching 3 9000 13333) ∧ (searching 3 9000 13333).capIe = true
    ∧ ∃ u, performAll [.edge, .handleContinue] (searching 3 9000 13333) = .next u :=
  ⟨by decide, ⟨fun _ _ => by decide, fun _ _ => ⟨trivial, fun _ _ => trivial⟩⟩, by decide, _, rfl⟩

/-- One step that must request, and one that must not. -/
theorem witness_RequestExactlyOncePerDispatch :
    (∃ t, perform (.dispatch 0x00) ref = .next t) ∧ requestsOf ref.cfg ref.gate (.dispatch 0x00) = 1
      ∧ (∃ t, perform .tick ref = .next t) ∧ requestsOf ref.cfg ref.gate .tick = 0 :=
  ⟨⟨_, rfl⟩, by decide, ⟨_, rfl⟩, by decide⟩

theorem witness_RequestCountIsDispatchCount :
    (∀ k ∈ [ScheduledStep.dispatch 0x01, .dispatch 0xFF], k ≠ .reset ∧ k ≠ .dispatch Cfg.reference.opEndRun)
      ∧ ∃ t, performAll [.dispatch 0x01, .dispatch 0xFF] (State.resetWith Cfg.reference) = .next t :=
  ⟨by decide, _, rfl⟩

/-- Both ways: `EndRun` closes the gate, `reset` opens it. -/
theorem witness_GateClosedByEndRunOpenedByReset :
    (∃ t, perform (.dispatch 0x0B) ref = .next t ∧ t.gate ≠ ref.gate)
      ∧ ∃ t, perform .reset { ref with gate := false } = .next t ∧ t.gate ≠ false :=
  ⟨⟨_, rfl, by decide⟩, _, rfl, by decide⟩

theorem witness_NoRequestUntilReset :
    (after (.dispatch 0x0B) ref).gate = false ∧ (∀ k ∈ [ScheduledStep.dispatch 0x06, .tick], k ≠ .reset)
      ∧ ∃ t, performAll [.dispatch 0x06, .tick] (after (.dispatch 0x0B) ref) = .next t := ⟨by decide, by decide, _, rfl⟩

/-- After a `Stop`, ticks, stale edges, A/D samples and unknown bytes. -/
theorem witness_StoppedUntilNextCommand : ∃ t, exec .stop ref = .next t
    ∧ (∀ k ∈ [ScheduledStep.tick, .edge, .adSample 37, .dispatch 0x7E], dispatchesKnown ref.cfg k = false)
    ∧ ∃ u, performAll [.tick, .edge, .adSample 37, .dispatch 0x7E] t = .next u := ⟨_, rfl, by decide, _, rfl⟩

/-- The same after an `EndRun`, and a reset in the run. -/
theorem witness_StoppedUntilNextCommand_endRun : ∃ t, exec .endRun ref = .next t
    ∧ (∀ k ∈ [ScheduledStep.lineDone, .reset, .dispatch 0xFF], dispatchesKnown ref.cfg k = false)
    ∧ ∃ u, performAll [.lineDone, .reset, .dispatch 0xFF] t = .next u := ⟨_, rfl, by decide, _, rfl⟩

/-! ## Witnesses: the whole machine -/

/-- The invariant holds of the reset state, from which a rotation is dispatched. -/
theorem witness_CouplingInvariantKept :
    CouplingInv (State.reset.withFetchWord 8 0x01) ∧ ∃ t, step (State.reset.withFetchWord 8 0x01) = .next t :=
  ⟨by constructor <;> first | decide | (unfold PwmPairFor; decide), _, rfl⟩

theorem witness_CouplingInvariantAtReset : tinyCfg.wf = true := by decide

theorem witness_ActuatorTableKept :
    ActuatorTable (State.reset.withFetchWord 8 0x01) ∧ ∃ t, step (State.reset.withFetchWord 8 0x01) = .next t :=
  ⟨by constructor <;> decide, _, rfl⟩

theorem witness_AtMostOneSourceIsLive :
    Cfg.reference.wf = true ∧ ∃ t, performAll [.dispatch 0x01, .tick] (State.resetWith Cfg.reference) = .next t :=
  ⟨by decide, _, rfl⟩

theorem witness_InterruptContextOnlyStops :
    (∃ t, perform .wdtIsr expired = .next t) ∧ ∃ t, perform .edge (searching 3 9000 20000) = .next t :=
  ⟨⟨_, rfl⟩, _, rfl⟩

/-- A tick and an unknown byte are no writers of most groups; a `Stop` and an A/D sample none of the others. -/
theorem witness_RegistersHaveTheirWriters : (∃ t, perform (.dispatch 0x7E) ref = .next t)
    ∧ dispatchesKnown ref.cfg (.dispatch 0x7E) = false ∧ dispatchesRotate ref.cfg (.dispatch 0x7E) = false
    ∧ (∃ t, perform .tick ref = .next t) ∧ dispatchesNonSentinel ref.cfg .tick = false
    ∧ (∃ t, perform (.dispatch 0x00) expired = .next t) ∧ dispatchesRotate expired.cfg (.dispatch 0x00) = false
    ∧ ∃ t, perform (.adSample 37) (after (.dispatch 0x0A) ref) = .next t ∧ t.lineIe = true :=
  ⟨⟨_, rfl⟩, by decide, by decide, ⟨_, rfl⟩, by decide, ⟨_, rfl⟩, by decide, _, rfl, by decide⟩

/-- The two implications whose premise is a bit that is set: an armed watchdog and a pending expiry, left by a byte
that is no command. -/
theorem witness_RegistersHaveTheirWriters_set :
    (∃ t, perform (.dispatch 0x7E) (after (.dispatch 0x01) ref) = .next t ∧ t.wdtArmed = true)
      ∧ ∃ t, perform (.dispatch 0x7E) expired = .next t ∧ t.wdtPend = true :=
  ⟨⟨_, rfl, by decide⟩, _, rfl, by decide⟩

theorem witness_ScalingInputCommutes : (∃ a, performAll [.wdtIsr, .adSample 50] expired = .next a)
    ∧ ∃ b, performAll [.adSample 50, .wdtIsr] expired = .next b := ⟨⟨_, rfl⟩, _, rfl⟩

/-- A value of `DIR` for each of the four clauses: after a drive forward and in reverse and the two rotations. -/
theorem witness_DirectionLinesFollowDir : (after (.dispatch 0x05) ref).dir = 0b00
    ∧ (after (.dispatch 0x07) ref).dir = 0b11 ∧ (after (.dispatch 0x01) ref).dir = 0b10
    ∧ (after (.dispatch 0x03) ref).dir = 0b01 := by decide

/-- spec/44_pwm_actuation.md R151: clockwise, the left wheel forward and the right wheel in reverse. -/
theorem test_lines_of_rotations :
    dirL (after (.dispatch 0x01) ref) = false ∧ dirR (after (.dispatch 0x01) ref) = true
      ∧ dirL (after (.dispatch 0x03) ref) = true ∧ dirR (after (.dispatch 0x03) ref) = false := by decide

/-- The reset state with an A/D sample next, and both commands that stop. -/
theorem witness_StopStateKeptByEveryStep :
    let s := { ref with schedule := [.adSample 37] }
    StoppedState s ∧ dispatchesKnown s.cfg (nextStep s) = false ∧ (∃ t, step s = .next t)
      ∧ (∃ t, exec .stop expired = .next t) ∧ ∃ t, exec .endRun expired = .next t :=
  ⟨by constructor <;> decide, by decide, ⟨_, rfl⟩, ⟨_, rfl⟩, _, rfl⟩

end Sys2Proof.Tests
end

section
/-! The agents do not read the schedule: performing a step commutes with replacing the list of the steps still to be
taken (spec/00_scope.md R12; notes/assumptions/1.md). One rule per operation, in the order of the model's files; the
obligations of spec/00_scope.md are assembled from them at the end. -/

namespace Sys2Proof.Machine

/-- The state with the schedule replaced. -/
def withSchedule (l : List ScheduledStep) (s : State) : State := { s with schedule := l }

/-- An outcome with `f` applied to the next state; refusals stay. -/
def mapNext (f : State → State) : Host.Outcome State Fault Refusal → Host.Outcome State Fault Refusal
  | .next s => .next (f s)
  | .fault r => .fault r
  | .refused r => .refused r

@[simp] theorem mapNext_next (f : State → State) (s : State) : mapNext f (.next s) = .next (f s) := rfl
@[simp] theorem mapNext_refused (f : State → State) (r : Refusal) : mapNext f (.refused r) = .refused r := rfl

/-! ## The PWM Generator and the shared operations -/

theorem setDuty_withSchedule (e : Percent) (l : List ScheduledStep) (s : State) :
    setDuty e (withSchedule l s) = withSchedule l (setDuty e s) := by
  unfold setDuty
  split_ifs <;> rfl

theorem applyDuty_withSchedule (l : List ScheduledStep) (s : State) :
    applyDuty (withSchedule l s) = withSchedule l (applyDuty s) :=
  setDuty_withSchedule _ l s

theorem drive_withSchedule (d : Percent) (h : Heading) (l : List ScheduledStep) (s : State) :
    drive d h (withSchedule l s) = withSchedule l (drive d h s) :=
  applyDuty_withSchedule l { s with dir := dirCode (headingDirection h), actDuty := d }

theorem startRotation_withSchedule (r : Rotation) (l : List ScheduledStep) (s : State) :
    startRotation r (withSchedule l s) = withSchedule l (startRotation r s) :=
  applyDuty_withSchedule l { s with dir := dirCode (rotationDirection r), actDuty := s.cfg.rotDuty }

theorem rotateTowardBeacon_withSchedule (l : List ScheduledStep) (s : State) :
    rotateTowardBeacon (withSchedule l s) = withSchedule l (rotateTowardBeacon s) :=
  startRotation_withSchedule _ l s

theorem stop_withSchedule (cause : StopCause) (l : List ScheduledStep) (s : State) :
    stop cause (withSchedule l s) = withSchedule l (stop cause s) := by
  rw [stop_eq, stop_eq]
  rfl

theorem requestNext_withSchedule (l : List ScheduledStep) (s : State) :
    requestNext (withSchedule l s) = withSchedule l (requestNext s) := by
  rw [requestNext_eq, requestNext_eq]
  rfl

/-! ## The agents other than the link

The conditions an agent tests do not read the schedule, so `apply_ite` moves `withSchedule` into its branches. -/

theorem tickWdt_withSchedule (l : List ScheduledStep) (s : State) :
    tickWdt (withSchedule l s) = withSchedule l (tickWdt s) := by
  unfold tickWdt
  rw [apply_ite (withSchedule l), apply_ite (withSchedule l)]
  rfl

theorem tick_withSchedule (l : List ScheduledStep) (s : State) :
    tick (withSchedule l s) = withSchedule l (tick s) := by
  have hcount : tickCapTimer (tickPwm (withSchedule l s)) = withSchedule l (tickCapTimer (tickPwm s)) := by
    rw [tickPwm_eq, tickPwm_eq]
    rfl
  rw [tick, hcount, tickWdt_withSchedule, tick]

theorem wdtIsr_withSchedule (l : List ScheduledStep) (s : State) :
    wdtIsr (withSchedule l s) = withSchedule l (wdtIsr s) := by
  rw [wdtIsr_eq, wdtIsr_eq]
  rfl

theorem testSample_withSchedule (hz : Nat) (l : List ScheduledStep) (s : State) :
    testSample hz (withSchedule l s) = withSchedule l (testSample hz s) := by
  simp only [testSample, converge_eq]
  rw [apply_ite (withSchedule l), apply_ite (withSchedule l)]
  rfl

theorem estimatorSample_withSchedule (p : Word32) (l : List ScheduledStep) (s : State) :
    estimatorSample p (withSchedule l s) = withSchedule l (estimatorSample p s) := by
  unfold estimatorSample
  rw [apply_ite (withSchedule l), ← testSample_withSchedule]
  rfl

theorem edge_withSchedule (l : List ScheduledStep) (s : State) :
    edge (withSchedule l s) = withSchedule l (edge s) := by
  unfold edge
  rw [apply_ite (withSchedule l), ← estimatorSample_withSchedule]
  rfl

theorem handleContinue_withSchedule (l : List ScheduledStep) (s : State) :
    handleContinue (withSchedule l s) = withSchedule l (handleContinue s) := by
  have hrearm : ∀ t, rearmSampling (withSchedule l t) = withSchedule l (rearmSampling t) := fun _ => rfl
  unfold handleContinue
  rw [apply_ite (withSchedule l), ← hrearm, ← rotateTowardBeacon_withSchedule]
  rfl

theorem lineDone_withSchedule (l : List ScheduledStep) (s : State) :
    lineDone (withSchedule l s) = withSchedule l (lineDone s) := by
  rw [lineDone_eq, lineDone_eq, apply_ite (withSchedule l)]
  rfl

theorem adSample_withSchedule (v : AdValue) (l : List ScheduledStep) (s : State) :
    adSample v (withSchedule l s) = withSchedule l (adSample v s) := by
  unfold adSample
  split_ifs with hv
  · exact applyDuty_withSchedule l { s with scale := ⟨v.toNat, hv⟩ }
  · rfl

theorem performReset_withSchedule (l : List ScheduledStep) (s : State) :
    performReset (withSchedule l s) = withSchedule l (performReset s) := rfl

/-! ## The link: the commands and their dispatch -/

theorem bodyStop_withSchedule (l : List ScheduledStep) (s : State) :
    bodyStop (withSchedule l s) = withSchedule l (bodyStop s) := by
  rw [bodyStop, stop_withSchedule]
  rfl

theorem bodyEndRun_withSchedule (l : List ScheduledStep) (s : State) :
    bodyEndRun (withSchedule l s) = withSchedule l (bodyEndRun s) := by
  rw [bodyEndRun, stop_withSchedule]
  rfl

theorem bodyRotate_withSchedule (ms : Nat) (r : Rotation) (l : List ScheduledStep) (s : State) :
    bodyRotate ms r (withSchedule l s) = withSchedule l (bodyRotate ms r s) :=
  congrArg (fun t : State => { t with motion := .executing }) (startRotation_withSchedule r l (wdtArm ms s))

theorem bodyDrive_withSchedule (d : Percent) (h : Heading) (l : List ScheduledStep) (s : State) :
    bodyDrive d h (withSchedule l s) = withSchedule l (bodyDrive d h s) := by
  rw [bodyDrive, drive_withSchedule]
  rfl

theorem bodyDriveToLine_withSchedule (l : List ScheduledStep) (s : State) :
    bodyDriveToLine (withSchedule l s) = withSchedule l (bodyDriveToLine s) :=
  bodyDrive_withSchedule fullDuty .forward l { s with lineIe := true }

theorem bodyAlignToBeacon_withSchedule (l : List ScheduledStep) (s : State) :
    bodyAlignToBeacon (withSchedule l s) = withSchedule l (bodyAlignToBeacon s) := by
  rw [bodyAlignToBeacon, rotateTowardBeacon_withSchedule]
  rfl

/-- The frame of a known command does not read the schedule when the command's body does not (R76). -/
theorem dispatchKnown_withSchedule {body : State → State} {l : List ScheduledStep}
    (hbody : ∀ s, body (withSchedule l s) = withSchedule l (body s)) (b : Byte) (s : State) :
    dispatchKnown b body (withSchedule l s) = withSchedule l (dispatchKnown b body s) := by
  have hretire : retire (withSchedule l s) = withSchedule l (retire s) := rfl
  rw [dispatchKnown, hretire, hbody]
  exact requestNext_withSchedule l { body (retire s) with cmdReg := b }

theorem exec_withSchedule (i : Instr) (l : List ScheduledStep) (s : State) :
    exec i (withSchedule l s) = mapNext (withSchedule l) (exec i s) := by
  cases i with
  | stop => exact congrArg _ (dispatchKnown_withSchedule (bodyStop_withSchedule l) _ s)
  | endRun => exact congrArg _ (dispatchKnown_withSchedule (bodyEndRun_withSchedule l) _ s)
  | nocmd => rfl
  | alignToBeacon => exact congrArg _ (dispatchKnown_withSchedule (bodyAlignToBeacon_withSchedule l) _ s)
  | driveToLine => exact congrArg _ (dispatchKnown_withSchedule (bodyDriveToLine_withSchedule l) _ s)
  | rotateCW90 | rotateCW45 | rotateCCW90 | rotateCCW45 =>
    exact congrArg _ (dispatchKnown_withSchedule (bodyRotate_withSchedule _ _ l) _ s)
  | driveForwardHalf | driveForwardFull | driveReverseHalf | driveReverseFull =>
    exact congrArg _ (dispatchKnown_withSchedule (bodyDrive_withSchedule _ _ l) _ s)

/-- Under a well-formed configuration the link's step is the dispatch of its byte. -/
theorem perform_dispatch {s : State} (hwf : s.cfg.wf = true) (b : Byte) : perform (.dispatch b) s = dispatch b s :=
  if_pos hwf

/-- A dispatched byte that decodes to an instruction is that instruction's `exec` (R76). -/
theorem dispatch_of_decode {b : Byte} {s : State} {i : Instr} (h : decode s.cfg b = .instr i) :
    dispatch b s = exec i s := by
  simp [dispatch, h]

/-- A dispatched byte that is an unknown opcode only asks for the next command (R92). -/
theorem dispatch_of_unknown {b b' : Byte} {s : State} (h : decode s.cfg b = .unknownOpcode b') :
    dispatch b s = .next (requestNext s) := by
  simp [dispatch, dispatchUnknown, h]

theorem dispatch_withSchedule (b : Byte) (l : List ScheduledStep) (s : State) :
    dispatch b (withSchedule l s) = mapNext (withSchedule l) (dispatch b s) := by
  cases h : decode s.cfg b with
  | instr i =>
    have h' : decode (withSchedule l s).cfg b = .instr i := h
    rw [dispatch_of_decode h, dispatch_of_decode h', exec_withSchedule]
  | unknownOpcode b' =>
    have h' : decode (withSchedule l s).cfg b = .unknownOpcode b' := h
    rw [dispatch_of_unknown h, dispatch_of_unknown h', requestNext_withSchedule, mapNext_next]

/-! ## The step of every agent, and runs -/

/-- No agent reads or writes the schedule: each step does the same, enabled or refused, whatever is scheduled. -/
theorem perform_withSchedule (k : ScheduledStep) (l : List ScheduledStep) (s : State) :
    perform k (withSchedule l s) = mapNext (withSchedule l) (perform k s) := by
  unfold perform
  rw [apply_ite (mapNext (withSchedule l)), mapNext_refused]
  refine if_congr Iff.rfl ?_ rfl
  cases k with
  | tick => exact congrArg _ (tick_withSchedule l s)
  | dispatch b => exact dispatch_withSchedule b l s
  | wdtIsr =>
    simp only [apply_ite (mapNext (withSchedule l)), mapNext_next, mapNext_refused, ← wdtIsr_withSchedule]
    rfl
  | edge => exact congrArg _ (edge_withSchedule l s)
  | handleContinue =>
    simp only [apply_ite (mapNext (withSchedule l)), mapNext_next, mapNext_refused, ← handleContinue_withSchedule]
    rfl
  | lineDone => exact congrArg _ (lineDone_withSchedule l s)
  | adSample v => exact congrArg _ (adSample_withSchedule v l s)
  | reset => exact congrArg _ (performReset_withSchedule l s)

/-- A step with `k` at the head of the schedule performs `k` with the rest scheduled. -/
theorem step_withSchedule_cons (k : ScheduledStep) (l : List ScheduledStep) (s : State) :
    step (withSchedule (k :: l) s) = perform k (withSchedule l s) := rfl

/-- Stepping through a scheduled list is the run of that list. -/
theorem runFor_withSchedule_append (ks rest : List ScheduledStep) (s : State) :
    runFor ks.length (withSchedule (ks ++ rest) s) = performAll ks (withSchedule rest s) := by
  induction ks generalizing s with
  | nil => rfl
  | cons k ks ih =>
    rw [List.length_cons, List.cons_append, runFor_succ, performAll, step_withSchedule_cons,
      perform_withSchedule, perform_withSchedule]
    cases perform k s with
    | next t => exact ih t
    | fault r => rfl
    | refused r => rfl

/-- With nothing scheduled the step of a well-formed machine is a tick (notes/assumptions/2.md). -/
theorem step_of_empty_schedule {s : State} (hwf : s.cfg.wf = true) (hempty : s.schedule = []) :
    step s = .next (tick s) := by
  have hnext : nextStep s = .tick := by simp [nextStep, hempty]
  have hpop : popSchedule s = s := by
    obtain ⟨⟩ := s
    cases hempty
    rfl
  rw [step_eq_perform, hnext, hpop]
  simp [perform, hwf]

/-- With nothing scheduled `n` steps of a well-formed machine are `n` ticks. -/
theorem runFor_of_empty_schedule (n : Nat) {s : State} (hwf : s.cfg.wf = true) (hempty : s.schedule = []) :
    runFor n s = .next (tickTimes n s) := by
  induction n generalizing s with
  | zero => rfl
  | succ n ih =>
    obtain ⟨a, c, p, htick, -⟩ := tick_spec s
    rw [runFor_succ, step_of_empty_schedule hwf hempty, tickTimes]
    exact ih (by rw [htick]; exact hwf) (by rw [htick]; exact hempty)

/-! ## The obligations of spec/00_scope.md -/

/-- Settles O8: by induction over the scheduled list, since no agent reads the schedule, and over the number of ticks,
since a tick keeps the configuration and the empty schedule. -/
theorem stepsPerformTheSchedule : Obligations.StepsPerformTheSchedule :=
  ⟨runFor_withSchedule_append, fun n _ hwf hempty => runFor_of_empty_schedule n hwf hempty⟩

/-- Settles O6: the head of the schedule is the dispatch, and a byte that decodes to `i` runs `exec i`. -/
theorem stepRunsDecodedInstruction : Obligations.StepRunsDecodedInstruction := by
  intro s b rest i hwf hsched hdecode
  have hs : s = withSchedule (.dispatch b :: rest) s := hsched ▸ rfl
  calc step s = step (withSchedule (.dispatch b :: rest) s) := congrArg step hs
    _ = perform (.dispatch b) (withSchedule rest s) := step_withSchedule_cons _ _ _
    _ = dispatch b (withSchedule rest s) := perform_dispatch (s := withSchedule rest s) hwf b
    _ = exec i (withSchedule rest s) := dispatch_of_decode hdecode

end Sys2Proof.Machine
end

section
/-! What a known command does, body by body, and the registers its dispatch may write (spec/40_dispatcher.md R76 to
R91; spec/10_state.md R51): the rules that the statements of spec/10_state.md about every step are assembled from. -/

namespace Sys2Proof.Machine

/-! ## The byte of a dispatch -/

/-- One test of the decode order: it answers its own instruction on its byte, and else passes the byte on (R68). -/
theorem decodeTest_cases {b x : Byte} {i j : Instr} {rest : Decoded}
    (h : (if b = x then .instr j else rest) = Decoded.instr i) : (b = x ∧ j = i) ∨ rest = .instr i := by
  by_cases hb : b = x
  · rw [if_pos hb] at h
    exact .inl ⟨hb, Decoded.instr.inj h⟩
  · rw [if_neg hb] at h
    exact .inr h

/-- A byte that decodes to an instruction is its byte (spec/30_encoding.md R65, R68). -/
theorem encode_of_decode {c : Cfg} {b : Byte} {i : Instr} (h : decode c b = .instr i) : encode c i = b := by
  unfold decode at h
  iterate 13
    obtain ⟨hb, rfl⟩ | h := decodeTest_cases h
    · exact hb.symm
  cases h

/-- The sentinel is tested first (R68). -/
theorem decode_sentinel (c : Cfg) : decode c c.sentinel = .instr .nocmd := if_pos rfl

/-- A byte that decodes to a command is a known one (spec/00_scope.md R16). -/
theorem isKnownByte_of_decode {c : Cfg} {b : Byte} {i : Instr} (h : decode c b = .instr i) (hi : i ≠ .nocmd) :
    isKnownByte c b = true := by
  simp [isKnownByte, h, hi]

/-- A known command is not the sentinel. -/
theorem ne_sentinel_of_isKnownByte {c : Cfg} {b : Byte} (h : isKnownByte c b = true) : b ≠ c.sentinel := by
  rintro rfl
  simp [isKnownByte, decode_sentinel] at h

/-- The drive to the line is no rotation: the opcodes are distinct (spec/30_encoding.md R66). -/
theorem isRotateByte_opDriveToLine {c : Cfg} (h : c.wf = true) : isRotateByte c c.opDriveToLine = false := by
  have hne (j : Instr) (hj : .driveToLine ≠ j) : encode c .driveToLine ≠ encode c j :=
    fun he => hj (Laws.encode_injective h he)
  simp only [isRotateByte, Bool.or_eq_false_iff, decide_eq_false_iff_not]
  exact ⟨⟨⟨hne .rotateCW90 (by decide), hne .rotateCW45 (by decide)⟩, hne .rotateCCW90 (by decide)⟩,
    hne .rotateCCW45 (by decide)⟩

/-! ## The bodies of the commands -/

/-- `body(Stop)` (R80). -/
theorem bodyStop_eq (s : State) : bodyStop s =
    { s with actDuty := 0, dir := 0b00, pwmMode := .forcedLow, motion := .idle
             trace := s.trace ++ [.stop .cmd] } := by
  rw [bodyStop, stop_eq]

/-- `body(EndRun)` (R91). -/
theorem bodyEndRun_eq (s : State) : bodyEndRun s =
    { s with actDuty := 0, dir := 0b00, pwmMode := .forcedLow, motion := .idle, gate := false
             trace := s.trace ++ [.stop .cmd] } := by
  rw [bodyEndRun, stop_eq]

/-- The shape of the rotations (R81 to R84). -/
theorem bodyRotate_spec (ms : Nat) (r : Rotation) (s : State) : ∃ m c,
    bodyRotate ms r s =
        { s with wdtPend := false, wdtTimeoutMs := BitVec.ofNat 32 ms, wdtCount := wdtLoad s.cfg ms
                 wdtArmed := true, dir := dirCode (rotationDirection r), actDuty := s.cfg.rotDuty
                 pwmMode := m, pwmCmp := c, motion := .executing }
      ∧ (s.cfg.wf = true → PwmPairFor s.cfg (s.cfg.rotDuty.val * s.scale.val / 100) s.pwmCmp m c) := by
  obtain ⟨m, c, hrot, hpair⟩ := startRotation_spec r (wdtArm ms s)
  exact ⟨m, c, by rw [bodyRotate, hrot]; rfl, hpair⟩

/-- The shape of the drives (R85 to R88). -/
theorem bodyDrive_spec (d : Percent) (h : Heading) (s : State) : ∃ m c,
    bodyDrive d h s =
        { s with dir := dirCode (headingDirection h), actDuty := d, pwmMode := m, pwmCmp := c
                 motion := .executing }
      ∧ (s.cfg.wf = true → PwmPairFor s.cfg (d.val * s.scale.val / 100) s.pwmCmp m c) := by
  obtain ⟨m, c, hdrive, hpair⟩ := drive_spec d h s
  exact ⟨m, c, by rw [bodyDrive, hdrive], hpair⟩

/-- `body(DriveToLine)`: a drive with the line sensor enabled (R90). -/
theorem bodyDriveToLine_spec (s : State) : ∃ m c,
    bodyDriveToLine s =
        { s with lineIe := true, dir := dirCode .forward, actDuty := fullDuty, pwmMode := m, pwmCmp := c
                 motion := .executing }
      ∧ (s.cfg.wf = true → PwmPairFor s.cfg (fullDuty.val * s.scale.val / 100) s.pwmCmp m c) :=
  bodyDrive_spec fullDuty .forward { s with lineIe := true }

/-- `body(AlignToBeacon)` (R89). -/
theorem bodyAlignToBeacon_spec (s : State) : ∃ m c,
    bodyAlignToBeacon s =
        { s with capIe := true, sampleCount := 0, runningSumHz := 0, detState := .searching
                 dir := dirCode (rotationDirection s.cfg.beaconDir), actDuty := s.cfg.rotDuty
                 pwmMode := m, pwmCmp := c, motion := .converging }
      ∧ (s.cfg.wf = true → PwmPairFor s.cfg (s.cfg.rotDuty.val * s.scale.val / 100) s.pwmCmp m c) := by
  obtain ⟨m, c, hrot, hpair⟩ := rotateTowardBeacon_spec s
  exact ⟨m, c, by rw [bodyAlignToBeacon, hrot]; rfl, hpair⟩

/-! ## The registers a known command may write -/

/-- The row `dispatch(known)` of spec/10_state.md R51 read the other way: what the command of byte `b`, taken from `s`
to `t`, leaves as it is or clears. -/
structure CommandWrites (b : Byte) (s t : State) : Prop where
  cfg : t.cfg = s.cfg
  counters : t.pwmCnt = s.pwmCnt ∧ t.capTimer = s.capTimer
  captureSample : t.lastEdge = s.lastEdge ∧ t.thisEdge = s.thisEdge ∧ t.period = s.period
  frequencies : t.instantHz = s.instantHz ∧ t.averagedHz = s.averagedHz
  scale : t.scale = s.scale
  sumAndCount : b ≠ s.cfg.opAlignToBeacon → t.runningSumHz = s.runningSumHz ∧ t.sampleCount = s.sampleCount
  timeout : isRotateByte s.cfg b = false → t.wdtTimeoutMs = s.wdtTimeoutMs
  disarmed : isRotateByte s.cfg b = false → t.wdtArmed = false
  notFired : t.wdtPend = false
  lineOff : b ≠ s.cfg.opDriveToLine → t.lineIe = false
  gateKept : b ≠ s.cfg.opEndRun → t.gate = s.gate
  gateNotOpened : t.gate = true → s.gate = true

/-- `retire()` alone writes nothing that only some commands write (R78). -/
theorem commandWrites_retire (b : Byte) (s : State) : CommandWrites b s (retire s) :=
  ⟨rfl, ⟨rfl, rfl⟩, ⟨rfl, rfl, rfl⟩, ⟨rfl, rfl⟩, rfl, fun _ => ⟨rfl, rfl⟩, fun _ => rfl, fun _ => rfl, rfl,
    fun _ => rfl, fun _ => rfl, id⟩

/-- The four rotations: the watchdog's timeout and arming besides. -/
theorem commandWrites_rotate {b : Byte} {s : State} (hb : isRotateByte s.cfg b = true) (ms : Nat) (r : Rotation) :
    CommandWrites b s (dispatchKnown b (bodyRotate ms r) s) := by
  obtain ⟨m, c, hbody, -⟩ := bodyRotate_spec ms r (retire s)
  have hnot : isRotateByte s.cfg b ≠ false := by simp [hb]
  rw [dispatchKnown_eq, hbody]
  exact { commandWrites_retire b s with
    timeout := fun h => absurd h hnot
    disarmed := fun h => absurd h hnot }

/-- The four drives: nothing besides. -/
theorem commandWrites_drive (b : Byte) (d : Percent) (hd : Heading) (s : State) :
    CommandWrites b s (dispatchKnown b (bodyDrive d hd) s) := by
  obtain ⟨m, c, hbody, -⟩ := bodyDrive_spec d hd (retire s)
  rw [dispatchKnown_eq, hbody]
  exact { commandWrites_retire b s with }

/-- Every command of the table keeps to the row of R51; which of them it is, its byte says. -/
theorem commandWrites_of_exec {i : Instr} {s t : State} (hi : i ≠ .nocmd) (h : exec i s = .next t) :
    CommandWrites (encode s.cfg i) s t := by
  have hretire := commandWrites_retire (encode s.cfg i) s
  cases i with
  | nocmd => exact absurd rfl hi
  | stop =>
    cases h
    rw [dispatchKnown_eq, bodyStop_eq]
    exact { hretire with }
  | endRun =>
    cases h
    rw [dispatchKnown_eq, bodyEndRun_eq]
    exact { hretire with
      gateKept := fun hne => absurd rfl hne
      gateNotOpened := nofun }
  | alignToBeacon =>
    cases h
    obtain ⟨m, c, hbody, -⟩ := bodyAlignToBeacon_spec (retire s)
    rw [dispatchKnown_eq, hbody]
    exact { hretire with sumAndCount := fun hne => absurd rfl hne }
  | driveToLine =>
    cases h
    obtain ⟨m, c, hbody, -⟩ := bodyDriveToLine_spec (retire s)
    rw [dispatchKnown_eq, hbody]
    exact { hretire with lineOff := fun hne => absurd rfl hne }
  | rotateCW90 | rotateCW45 | rotateCCW90 | rotateCCW45 =>
    cases h
    exact commandWrites_rotate (by simp [isRotateByte, encode]) _ _
  | driveForwardHalf | driveForwardFull | driveReverseHalf | driveReverseFull =>
    cases h
    exact commandWrites_drive _ _ _ s

/-- What a dispatch can do, by its byte: nothing, a request, or a known command. -/
theorem dispatch_writes {b : Byte} {s t : State} (h : dispatch b s = .next t) :
    t = s ∨ (b ≠ s.cfg.sentinel ∧ t = { s with trace := requestTrace s.gate s.trace })
      ∨ (isKnownByte s.cfg b = true ∧ CommandWrites b s t) := by
  obtain ⟨i, hdec, hexec⟩ | ⟨b', hdec, rfl⟩ := dispatch_cases h
  · by_cases hi : i = .nocmd
    · subst hi
      cases hexec
      exact .inl rfl
    · exact .inr (.inr ⟨isKnownByte_of_decode hdec hi, encode_of_decode hdec ▸ commandWrites_of_exec hi hexec⟩)
  · refine .inr (.inl ⟨?_, rfl⟩)
    rintro rfl
    simp [decode_sentinel] at hdec

end Sys2Proof.Machine
end

section
/-! Who writes what (spec/10_state.md R51; spec/20_memory.md R61). A step's lemma starts from the state it began in
and lists the groups of registers that the step writes. -/

namespace Sys2Proof.Machine

/-! ## The two fields of the model's own -/

/-- No step writes the schedule, since none reads it (notes/assumptions/1.md, 16.md). -/
theorem perform_schedule {k : ScheduledStep} {s t : State} (h : perform k s = .next t) : t.schedule = s.schedule := by
  have hstep := perform_withSchedule k s.schedule s
  have hs : withSchedule s.schedule s = s := rfl
  rw [hs, h, mapNext_next, Host.Outcome.next.injEq] at hstep
  rw [hstep]
  rfl

/-- An edge keeps the configuration. -/
theorem edge_cfg (s : State) : (edge s).cfg = s.cfg := by
  obtain ⟨-, he⟩ | ⟨-, -, he⟩ | ⟨-, -, hz, a, -, rfl, ⟨-, he⟩ | ⟨-, -, he⟩ | ⟨-, -, he⟩⟩ := edge_spec s
  · rw [he]
  · rw [he, captureEdge_cfg]
  · rw [he, accumulate_cfg, captureEdge_cfg]
  · rw [he, converge_eq, accumulate_cfg, captureEdge_cfg]
  · rw [he, publishAndContinue_eq, accumulate_cfg, captureEdge_cfg]

/-- No step writes the configuration (spec/10_state.md R45; notes/assumptions/4.md, 16.md). -/
theorem perform_cfg {k : ScheduledStep} {s t : State} (h : perform k s = .next t) : t.cfg = s.cfg := by
  obtain ⟨-, ⟨-, rfl⟩ | ⟨b, -, hdisp⟩ | ⟨-, -, rfl⟩ | ⟨-, rfl⟩ | ⟨-, -, rfl⟩ | ⟨-, rfl⟩ | ⟨v, -, rfl⟩ | ⟨-, rfl⟩⟩ :=
    perform_cases h
  ·
    obtain ⟨a, n, p, htick, -⟩ := tick_spec s
    rw [htick]
  ·
    obtain rfl | ⟨-, rfl⟩ | ⟨-, hcmd⟩ := dispatch_writes hdisp
    · rfl
    · rfl
    · exact hcmd.cfg
  · rw [wdtIsr_eq]
  · exact edge_cfg s
  · obtain ⟨-, hc⟩ | ⟨-, m, c, hc, -⟩ := handleContinue_spec s <;> rw [hc]
  · rw [lineDone_eq]
    split_ifs <;> rfl
  · obtain ⟨-, ha⟩ | ⟨p, m, c, -, ha, -⟩ := adSample_spec v s <;> rw [ha]
  · rfl

/-! ## The steps of the agents -/

/-- A step that changes nothing keeps to every write set. -/
theorem ownWrites_refl (k : ScheduledStep) (s : State) : OwnWrites k s s where
  counters _ := ⟨rfl, rfl⟩
  captureSample _ := ⟨rfl, rfl, rfl⟩
  frequencies _ := ⟨rfl, rfl⟩
  sumAndCount _ _ _ := ⟨rfl, rfl⟩
  detector _ _ _ := ⟨rfl, rfl, rfl⟩
  timeout _ := rfl
  countdown _ _ := ⟨rfl, rfl⟩
  arming _ h := h
  expiry _ _ _ := rfl
  expires _ h := h
  lineEnable _ _ := rfl
  lineSet _ h := h
  command _ := rfl
  gate _ := rfl
  scale _ := rfl
  motion _ _ _ _ := rfl
  request _ _ _ _ _ := ⟨rfl, rfl⟩
  pwmMode _ _ _ _ _ _ := rfl
  pwmThreshold _ _ _ := rfl
  trace _ _ _ _ := rfl

/-- `tick`: the free-running counters and the watchdog, which it never arms (R190). -/
theorem ownWrites_tick (s : State) : OwnWrites .tick s (tick s) := by
  obtain ⟨a, n, p, htick, hwdt⟩ := tick_spec s
  have harm : a = true → s.wdtArmed = true := by
    obtain ⟨-, ha, -⟩ | ⟨h, -⟩ | ⟨h, -⟩ := hwdt
    · simp [ha]
    · exact fun _ => h
    · exact fun _ => h
  rw [htick]
  exact { ownWrites_refl .tick s with
    counters := fun h => absurd rfl h
    countdown := fun h => absurd rfl h
    arming := fun _ => harm
    expiry := fun h => absurd rfl h
    expires := fun h => absurd rfl h }

/-- `wdt_isr`: the pending expiry and a stop (R107). -/
theorem ownWrites_wdtIsr (s : State) : OwnWrites .wdtIsr s (wdtIsr s) := by
  rw [wdtIsr_eq]
  exact { ownWrites_refl .wdtIsr s with
    expiry := fun _ h => absurd rfl h
    expires := nofun
    motion := fun h => absurd rfl h
    request := fun h => absurd rfl h
    pwmMode := fun h => absurd rfl h
    trace := fun h => absurd rfl h }

/-- The capture of an edge: the time stamps (R115). -/
theorem ownWrites_captureEdge (s : State) : OwnWrites .edge s (captureEdge s) :=
  { ownWrites_refl .edge s with captureSample := fun h => absurd rfl h }

/-- An accepted sample: the time stamps and the estimate (R124). -/
theorem ownWrites_accumulate (hz : Nat) (s : State) : OwnWrites .edge s (accumulate hz (captureEdge s)) :=
  { ownWrites_captureEdge s with
    frequencies := fun h => absurd rfl h
    sumAndCount := fun h => absurd rfl h }

/-- `edge`: a capture, an accepted sample, and after a test either a stop or a publish (R114, R120). -/
theorem ownWrites_edge (s : State) : OwnWrites .edge s (edge s) := by
  obtain ⟨-, he⟩ | ⟨-, -, he⟩ | ⟨-, -, hz, a, -, rfl, ⟨-, he⟩ | ⟨-, -, he⟩ | ⟨-, -, he⟩⟩ := edge_spec s
  · rw [he]
    exact ownWrites_refl .edge s
  · rw [he]
    exact ownWrites_captureEdge s
  · rw [he]
    exact ownWrites_accumulate hz s
  · rw [he, converge_eq]
    exact { ownWrites_accumulate hz s with
      detector := fun h => absurd rfl h
      motion := fun _ h => absurd rfl h
      request := fun _ h => absurd rfl h
      pwmMode := fun _ h => absurd rfl h
      trace := fun _ h => absurd rfl h }
  · rw [he, publishAndContinue_eq]
    exact { ownWrites_accumulate hz s with
      frequencies := fun h => absurd rfl h
      sumAndCount := fun h => absurd rfl h
      detector := fun h => absurd rfl h
      trace := fun _ h => absurd rfl h }

/-- `handle_continue`: the self-event, the rotation and the re-arm of sampling (R133). -/
theorem ownWrites_handleContinue (s : State) : OwnWrites .handleContinue s (handleContinue s) := by
  obtain ⟨-, hc⟩ | ⟨-, m, c, hc, -⟩ := handleContinue_spec s
  · rw [hc]
    exact { ownWrites_refl .handleContinue s with detector := fun _ h => absurd rfl h }
  · rw [hc]
    exact { ownWrites_refl .handleContinue s with
      sumAndCount := fun _ h => absurd rfl h
      detector := fun _ h => absurd rfl h
      request := fun _ _ _ h => absurd rfl h
      pwmMode := fun _ _ _ h => absurd rfl h
      pwmThreshold := fun h => absurd rfl h }

/-- `line_done`: the line enable and a stop (R96). -/
theorem ownWrites_lineDone (s : State) : OwnWrites .lineDone s (lineDone s) := by
  rw [lineDone_eq]
  split_ifs
  · exact { ownWrites_refl .lineDone s with
      lineEnable := fun h => absurd rfl h
      lineSet := nofun
      motion := fun _ _ h => absurd rfl h
      request := fun _ _ h => absurd rfl h
      pwmMode := fun _ _ h => absurd rfl h
      trace := fun _ _ h => absurd rfl h }
  · exact ownWrites_refl .lineDone s

/-- `ad_sample`: the scale and the compare pair (R150). -/
theorem ownWrites_adSample (v : AdValue) (s : State) : OwnWrites (.adSample v) s (adSample v s) := by
  obtain ⟨-, ha⟩ | ⟨p, m, c, -, ha, -⟩ := adSample_spec v s
  · rw [ha]
    exact ownWrites_refl (.adSample v) s
  · rw [ha]
    exact { ownWrites_refl (.adSample v) s with
      scale := fun h => absurd rfl (h v)
      pwmMode := fun _ _ _ _ h => absurd rfl (h v)
      pwmThreshold := fun _ h => absurd rfl (h v) }

/-! ## The dispatch of a byte -/

/-- A request for the next command is the trace's alone, and only a byte that is not the sentinel makes one (R93). -/
theorem ownWrites_request {b : Byte} {s : State} (hb : b ≠ s.cfg.sentinel) (tr : List TraceEvent) :
    OwnWrites (.dispatch b) s { s with trace := tr } :=
  { ownWrites_refl (.dispatch b) s with
    trace := fun _ _ _ h => absurd (of_decide_eq_false h) (not_not_intro hb) }

/-- A known command writes what its row of R51 names. -/
theorem ownWrites_of_commandWrites {b : Byte} {s t : State} (hb : isKnownByte s.cfg b = true)
    (h : CommandWrites b s t) : OwnWrites (.dispatch b) s t := by
  have hknown : dispatchesKnown s.cfg (.dispatch b) ≠ false := by simp [dispatchesKnown, hb]
  have hsent : dispatchesNonSentinel s.cfg (.dispatch b) ≠ false := by
    simp [dispatchesNonSentinel, ne_sentinel_of_isKnownByte hb]
  have hbyte {b' : Byte} (hne : ScheduledStep.dispatch b ≠ .dispatch b') : b ≠ b' := fun he => hne (he ▸ rfl)
  exact {
    counters := fun _ => h.counters
    captureSample := fun _ => h.captureSample
    frequencies := fun _ => h.frequencies
    sumAndCount := fun _ _ hne => h.sumAndCount (hbyte hne)
    detector := fun _ _ hk => absurd hk hknown
    timeout := h.timeout
    countdown := fun _ hk => absurd hk hknown
    arming := fun hrot harmed => by simp [h.disarmed hrot] at harmed
    expiry := fun _ _ hk => absurd hk hknown
    expires := fun _ hpend => by simp [h.notFired] at hpend
    lineEnable := fun _ hk => absurd hk hknown
    lineSet := fun hne hline => by simp [h.lineOff (hbyte hne)] at hline
    command := fun hk => absurd hk hknown
    gate := fun hne => h.gateKept (hbyte hne)
    scale := fun _ => h.scale
    motion := fun _ _ _ hk => absurd hk hknown
    request := fun _ _ _ _ hk => absurd hk hknown
    pwmMode := fun _ _ _ _ _ hk => absurd hk hknown
    pwmThreshold := fun _ _ hk => absurd hk hknown
    trace := fun _ _ _ hs => absurd hs hsent }

/-- `dispatch`: nothing, a request, or a known command (R76). -/
theorem ownWrites_dispatch {b : Byte} {s t : State} (h : dispatch b s = .next t) : OwnWrites (.dispatch b) s t := by
  obtain rfl | ⟨hb, rfl⟩ | ⟨hb, hcmd⟩ := dispatch_writes h
  · exact ownWrites_refl _ _
  · exact ownWrites_request hb _
  · exact ownWrites_of_commandWrites hb hcmd

/-- Every step but reset keeps to the write sets. -/
theorem ownWrites_of_perform {k : ScheduledStep} {s t : State} (h : perform k s = .next t) (hk : k ≠ .reset) :
    OwnWrites k s t := by
  obtain ⟨-, ⟨rfl, rfl⟩ | ⟨b, rfl, hdisp⟩ | ⟨rfl, -, rfl⟩ | ⟨rfl, rfl⟩ | ⟨rfl, -, rfl⟩ | ⟨rfl, rfl⟩ | ⟨v, rfl, rfl⟩
    | ⟨rfl, -⟩⟩ := perform_cases h
  · exact ownWrites_tick s
  · exact ownWrites_dispatch hdisp
  · exact ownWrites_wdtIsr s
  · exact ownWrites_edge s
  · exact ownWrites_handleContinue s
  · exact ownWrites_lineDone s
  · exact ownWrites_adSample v s
  · exact absurd rfl hk

/-! ## The obligations on the write sets -/

/-- Settles O57: agent by agent, each lemma listing what that agent writes. -/
theorem registersHaveTheirWriters : Obligations.RegistersHaveTheirWriters := fun _ _ _ h =>
  ⟨perform_cfg h, perform_schedule h, ownWrites_of_perform h⟩

/-- No dispatch opens the gate (spec/40_dispatcher.md R91). -/
theorem dispatch_gate_not_opened {b : Byte} {s t : State} (h : dispatch b s = .next t) (ht : t.gate = true) :
    s.gate = true := by
  obtain rfl | ⟨-, rfl⟩ | ⟨-, hcmd⟩ := dispatch_writes h
  · exact ht
  · exact ht
  · exact hcmd.gateNotOpened ht

/-- Settles O49: `reset` opens the gate; of the other steps only the dispatch of `OP_EndRun` writes it, and no dispatch
opens it. -/
theorem gateClosedByEndRunOpenedByReset : Obligations.GateClosedByEndRunOpenedByReset := by
  intro k s t h hgate
  by_cases hk : k = .reset
  · obtain ⟨-, rfl⟩ : s.cfg.wf = true ∧ t = performReset s := by simpa [hk] using perform_cases h
    exact .inr ⟨rfl, hk⟩
  · have hend : k = .dispatch s.cfg.opEndRun := by
      by_contra hne
      exact hgate ((ownWrites_of_perform h hk).gate hne)
    subst hend
    have hdisp : dispatch s.cfg.opEndRun s = .next t := perform_dispatch (perform_cases h).1 _ ▸ h
    refine .inl ⟨?_, rfl⟩
    by_contra hopen
    have ht : t.gate = true := by simpa using hopen
    exact hgate (ht.trans (dispatch_gate_not_opened hdisp ht).symm)

end Sys2Proof.Machine
end

section
/-! The direction lines, and the range and coupling invariants (spec/10_state.md R25, R49, R50): which states have them
for what they are, then step by step. A step's lemma starts from the invariants it found and lists those that it has
to prove anew. -/

namespace Sys2Proof.Machine

/-! ## The direction lines -/

/-- The two lines of a `DIR` that is known (R25). -/
theorem dirLines_of_dir {s : State} {d : BitVec 2} (h : s.dir = d) :
    dirL s = d.getLsbD 0 ∧ dirR s = d.getLsbD 1 := h ▸ ⟨rfl, rfl⟩

/-- Settles O59: each line is a bit of `DIR`. -/
theorem directionLinesFollowDir : Obligations.DirectionLinesFollowDir :=
  ⟨fun _ => ⟨rfl, rfl, dirLines_of_dir, dirLines_of_dir, dirLines_of_dir, dirLines_of_dir⟩, rfl, rfl, rfl, rfl⟩

/-! ## The compare pair and the watchdog's load -/

/-- A compare pair taken from a threshold in range has its threshold in range, and is the pair of that threshold too
(spec/44_pwm_actuation.md R140, R145). -/
theorem pwmPairFor_settled {c : Cfg} (hwf : c.wf = true) {e : Nat} (he : e ≤ 100) {old cmp : Word16} {mode : PwmMode}
    (hold : 1 ≤ old.toNat ∧ old.toNat ≤ c.pwmPeriod) (h : PwmPairFor c e old mode cmp) :
    (1 ≤ cmp.toNat ∧ cmp.toNat ≤ c.pwmPeriod) ∧ PwmPairFor c e cmp mode cmp := by
  unfold PwmPairFor at h ⊢
  split_ifs at h ⊢ with h0 h100
  · obtain ⟨hmode, rfl⟩ := h
    exact ⟨hold, hmode, rfl⟩
  · obtain ⟨hmode, rfl⟩ := h
    exact ⟨hold, hmode, rfl⟩
  · have hlt := threshold_quotient_lt (wf_period hwf).1 (show e ≤ 99 by omega)
    obtain ⟨hmode, hcmp⟩ := h
    exact ⟨by omega, hmode, hcmp⟩

/-- The effective duty of two percentages is at most 100 (spec/44_pwm_actuation.md R148). -/
theorem effective_le (d p : Percent) : d.val * p.val / 100 ≤ 100 := Nat.le_of_lt_succ (effectiveDuty_bound d p)

/-- The pair of an effective duty 0 is low output (R50(g), (h)). -/
theorem forcedLow_of_pwmPairFor_zero {c : Cfg} {old cmp : Word16} {mode : PwmMode}
    (h : PwmPairFor c 0 old mode cmp) : mode = .forcedLow := h.1

/-- The load of a timeout from 1 to `T90_MS` is at least one tick (spec/41_watchdog.md R102). -/
theorem wdtLoad_pos {c : Cfg} (hwf : c.wf = true) {ms : Nat} (hpos : 1 ≤ ms) (hle : ms ≤ c.t90Ms) :
    1 ≤ (wdtLoad c ms).toNat := by
  rw [wdtLoad_toNat hwf hle]
  exact Nat.mul_pos hpos (ticksPerMs_pos hwf)

/-! ## States that have the invariants -/

/-- The invariants do not speak of the schedule. -/
theorem couplingInv_withSchedule {s : State} (h : CouplingInv s) (l : List ScheduledStep) :
    CouplingInv (withSchedule l s) := { h with }

/-- A stopped state with its PWM registers in range has the invariants, whatever it was before. -/
theorem couplingInv_of_stopped {s : State} (hwf : s.cfg.wf = true) (hcnt : s.pwmCnt.toNat < s.cfg.pwmPeriod)
    (hcmp : 1 ≤ s.pwmCmp.toNat ∧ s.pwmCmp.toNat ≤ s.cfg.pwmPeriod) (hstop : StoppedState s)
    (hdet : s.detState ≠ .searching) : CouplingInv s where
  config := hwf
  dutyRange := .inl hstop.duty
  cntRange := hcnt
  cmpRange := hcmp
  captureSearching := by simp [hstop.captureOff, hdet]
  searchingConverging := by simp [hstop.motion, hdet]
  convergedIdle _ := ⟨hstop.motion, hstop.captureOff⟩
  pendingContinue hc := by simp [hstop.noContinue] at hc
  armed ha := by simp [hstop.disarmed] at ha
  fired hp := by simp [hstop.notFired] at hp
  lineEnabled hl := by simp [hstop.lineOff] at hl
  idleStopped _ := ⟨hstop.duty, hstop.lines, hstop.output⟩
  compareState := by simp [PwmPairFor, effectiveOf, hstop.duty, hstop.output]

/-- The reset state is a stopped state (spec/70_reset_and_hazards.md R186). -/
theorem stoppedState_resetWith (c : Cfg) : StoppedState (State.resetWith c) :=
  ⟨rfl, rfl, rfl, rfl, rfl, rfl, rfl, rfl, rfl⟩

/-- The reset state of a well-formed configuration has the invariants (R49, R50, R186). -/
theorem couplingInv_resetWith {c : Cfg} (hwf : c.wf = true) : CouplingInv (State.resetWith c) := by
  obtain ⟨hpos, hlt⟩ := wf_period hwf
  refine couplingInv_of_stopped hwf ?_ ?_ (stoppedState_resetWith c) (by simp [State.resetWith])
  · simp only [State.resetWith, BitVec.toNat_ofNat]
    omega
  · simp only [State.resetWith, BitVec.toNat_ofNat]
    omega

/-- Settles O53: the reset state is stopped, with its PWM registers in range. -/
theorem couplingInvariantAtReset : Obligations.CouplingInvariantAtReset :=
  ⟨fun _ => couplingInv_resetWith, couplingInv_resetWith (by decide)⟩

/-! ## At most one source is live (R50(a) to (f)) -/

section
variable {s : State} (h : CouplingInv s)
include h

/-- The capture is on exactly while aligning. -/
theorem CouplingInv.capIe_iff : s.capIe = true ↔ s.motion = .converging :=
  h.captureSearching.trans h.searchingConverging

/-- While not aligning the capture is off and no self-event is pending. -/
theorem CouplingInv.detector_off (hm : s.motion ≠ .converging) : s.capIe = false ∧ s.contPend = false :=
  ⟨Bool.eq_false_iff.2 fun hc => hm (h.capIe_iff.1 hc), Bool.eq_false_iff.2 fun hc => hm (h.pendingContinue hc)⟩

/-- While no command is executing the watchdog is disarmed and not pending, and the line sensor is off. -/
theorem CouplingInv.watchdog_line_off (hm : s.motion ≠ .executing) :
    s.wdtArmed = false ∧ s.wdtPend = false ∧ s.lineIe = false := by
  refine ⟨Bool.eq_false_iff.2 fun ha => ?_, Bool.eq_false_iff.2 fun hp => ?_, Bool.eq_false_iff.2 fun hl => ?_⟩
  · exact hm (h.armed ha).2.2.1
  · exact hm (h.fired hp).2.2.1
  · exact hm (h.lineEnabled hl).1

/-- With a rotation in `CMD_REG` the line sensor is off. -/
theorem CouplingInv.line_off_of_rotate (hr : isRotateByte s.cfg s.cmdReg = true) : s.lineIe = false := by
  refine Bool.eq_false_iff.2 fun hl => ?_
  rw [(h.lineEnabled hl).2, isRotateByte_opDriveToLine h.config] at hr
  cases hr

/-- With the line sensor on the watchdog is disarmed and not pending. -/
theorem CouplingInv.watchdog_off_of_line (hl : s.lineIe = true) : s.wdtArmed = false ∧ s.wdtPend = false := by
  refine ⟨Bool.eq_false_iff.2 fun ha => ?_, Bool.eq_false_iff.2 fun hp => ?_⟩
  · simp [h.line_off_of_rotate (h.armed ha).2.2.2] at hl
  · simp [h.line_off_of_rotate (h.fired hp).2.2.2] at hl

/-- The detector is not searching while not aligning. -/
theorem CouplingInv.not_searching (hm : s.motion ≠ .converging) : s.detState ≠ .searching :=
  fun hd => hm (h.searchingConverging.1 hd)

/-! ## The clock and the handlers -/

/-- The period counter stays below `P` (R49; spec/44_pwm_actuation.md R142). -/
theorem CouplingInv.cntRange_tick :
    (if s.pwmCnt = 0 then BitVec.ofNat 16 (s.cfg.pwmPeriod - 1) else s.pwmCnt - 1).toNat < s.cfg.pwmPeriod := by
  obtain ⟨hpos, hlt⟩ := wf_period h.config
  have hcnt := h.cntRange
  split_ifs with h0
  · simp only [BitVec.toNat_ofNat]
    omega
  · bv_omega

theorem couplingInv_tick : CouplingInv (tick s) := by
  obtain ⟨a, n, p, htick, hwdt⟩ := tick_spec s
  have hcnt := h.cntRange_tick
  rw [htick]
  obtain ⟨ha, rfl, rfl, rfl⟩ | ⟨ha, -, rfl, rfl, rfl⟩ | ⟨ha, hn, rfl, rfl, rfl⟩ := hwdt
  · exact { h with
      cntRange := hcnt
      armed := nofun
      fired := fun hp => ⟨rfl, (h.fired hp).2⟩ }
  · obtain ⟨-, -, hlive⟩ := h.armed ha
    exact { h with
      cntRange := hcnt
      armed := nofun
      fired := fun _ => ⟨rfl, rfl, hlive⟩ }
  · obtain ⟨hp, -, hlive⟩ := h.armed ha
    exact { h with
      cntRange := hcnt
      armed := fun _ => ⟨hp, by bv_omega, hlive⟩
      fired := fun hp' => absurd (hp.symm.trans hp') nofun }

/-- The watchdog's handler stops a rotation, so nothing else was live. -/
theorem couplingInv_wdtIsr (hp : s.wdtPend = true) : CouplingInv (wdtIsr s) := by
  obtain ⟨hdisarmed, -, hexec, hrot⟩ := h.fired hp
  have hm : s.motion ≠ .converging := by simp [hexec]
  obtain ⟨hcap, hcont⟩ := h.detector_off hm
  rw [wdtIsr_eq]
  exact couplingInv_of_stopped h.config h.cntRange h.cmpRange
    ⟨rfl, rfl, rfl, rfl, hdisarmed, rfl, hcap, hcont, h.line_off_of_rotate hrot⟩ (h.not_searching hm)

/-- The line sensor's event stops a drive to the line, so nothing else was live. -/
theorem couplingInv_lineDone : CouplingInv (lineDone s) := by
  rw [lineDone_eq]
  split_ifs with hl
  · have hm : s.motion ≠ .converging := by simp [(h.lineEnabled hl).1]
    obtain ⟨hcap, hcont⟩ := h.detector_off hm
    obtain ⟨hdisarmed, hfired⟩ := h.watchdog_off_of_line hl
    exact couplingInv_of_stopped h.config h.cntRange h.cmpRange
      ⟨rfl, rfl, rfl, rfl, hdisarmed, hfired, hcap, hcont, rfl⟩ (h.not_searching hm)
  · exact h

/-- Capture and accumulation write none of the coupled registers. -/
theorem couplingInv_accumulate (hz : Nat) : CouplingInv (accumulate hz (captureEdge s)) := { h with }

/-- An edge is handled while aligning only: it leaves the alignment live, or stops it. -/
theorem couplingInv_edge : CouplingInv (edge s) := by
  obtain ⟨-, he⟩ | ⟨-, -, he⟩ | ⟨hcap, -, hz, a, -, rfl, ⟨-, he⟩ | ⟨-, -, he⟩ | ⟨-, -, he⟩⟩ := edge_spec s
  · rw [he]
    exact h
  · rw [he]
    exact { h with }
  · rw [he]
    exact couplingInv_accumulate h hz
  · have hm : s.motion ≠ .executing := by simp [h.capIe_iff.1 hcap]
    obtain ⟨hdisarmed, hfired, hline⟩ := h.watchdog_line_off hm
    rw [he, converge_eq]
    exact couplingInv_of_stopped h.config h.cntRange h.cmpRange
      ⟨rfl, rfl, rfl, rfl, hdisarmed, hfired, rfl, rfl, hline⟩ nofun
  · rw [he, publishAndContinue_eq]
    exact { couplingInv_accumulate h hz with pendingContinue := fun _ => h.capIe_iff.1 hcap }

/-- The self-event's handler turns on the rotation and the capture that aligning has on. -/
theorem couplingInv_handleContinue : CouplingInv (handleContinue s) := by
  obtain ⟨-, hc⟩ | ⟨hm, m, c, hc, hpair⟩ := handleContinue_spec s
  · rw [hc]
    exact { h with pendingContinue := nofun }
  · obtain ⟨hcmp, hself⟩ := pwmPairFor_settled h.config (effective_le _ _) h.cmpRange (hpair h.config)
    rw [hc]
    exact { h with
      dutyRange := .inr (.inr (.inr rfl))
      cmpRange := hcmp
      captureSearching := iff_of_true rfl rfl
      searchingConverging := iff_of_true rfl hm
      convergedIdle := nofun
      pendingContinue := nofun
      idleStopped := fun hidle => absurd (hm.symm.trans hidle) nofun
      compareState := hself }

/-- A new scale moves the compare pair, and leaves a stopped robot's output low. -/
theorem couplingInv_adSample (v : AdValue) : CouplingInv (adSample v s) := by
  obtain ⟨-, ha⟩ | ⟨p, m, c, -, ha, hpair⟩ := adSample_spec v s
  · rw [ha]
    exact h
  · have hnew := hpair h.config
    obtain ⟨hcmp, hself⟩ := pwmPairFor_settled h.config (effective_le _ _) h.cmpRange hnew
    rw [ha]
    refine { h with cmpRange := hcmp, idleStopped := fun hidle => ?_, compareState := hself }
    obtain ⟨hduty, hlines, -⟩ := h.idleStopped hidle
    rw [hduty] at hnew
    exact ⟨hduty, hlines, forcedLow_of_pwmPairFor_zero (by simpa using hnew)⟩

/-! ## The commands -/

/-- The state of a command that is executing with nothing enabled: the one a drive leaves (spec/40_dispatcher.md R85),
from which a rotation and a drive to the line differ in their own source only. -/
theorem couplingInv_executing (b : Byte) {d : Percent} (hd : d = 0 ∨ d = 50 ∨ d = 100 ∨ d = s.cfg.rotDuty)
    (lines : BitVec 2) {m : PwmMode} {c : Word16}
    (hpair : PwmPairFor s.cfg (d.val * s.scale.val / 100) s.pwmCmp m c) :
    CouplingInv { retire s with
      motion := .executing, actDuty := d, dir := lines, pwmMode := m, pwmCmp := c, cmdReg := b } := by
  obtain ⟨hcmp, hself⟩ := pwmPairFor_settled h.config (effective_le _ _) h.cmpRange hpair
  exact {
    config := h.config
    dutyRange := hd
    cntRange := h.cntRange
    cmpRange := hcmp
    captureSearching := iff_of_false nofun nofun
    searchingConverging := iff_of_false nofun nofun
    convergedIdle := nofun
    pendingContinue := nofun
    armed := nofun
    fired := nofun
    lineEnabled := nofun
    idleStopped := nofun
    compareState := hself }

theorem couplingInv_stop (b : Byte) : CouplingInv (dispatchKnown b bodyStop s) := by
  rw [dispatchKnown_eq, bodyStop_eq]
  exact couplingInv_of_stopped h.config h.cntRange h.cmpRange ⟨rfl, rfl, rfl, rfl, rfl, rfl, rfl, rfl, rfl⟩ nofun

theorem couplingInv_endRun (b : Byte) : CouplingInv (dispatchKnown b bodyEndRun s) := by
  rw [dispatchKnown_eq, bodyEndRun_eq]
  exact couplingInv_of_stopped h.config h.cntRange h.cmpRange ⟨rfl, rfl, rfl, rfl, rfl, rfl, rfl, rfl, rfl⟩ nofun

theorem couplingInv_drive (b : Byte) {d : Percent} (hd : d = 50 ∨ d = 100) (heading : Heading) :
    CouplingInv (dispatchKnown b (bodyDrive d heading) s) := by
  obtain ⟨m, c, hbody, hpair⟩ := bodyDrive_spec d heading (retire s)
  rw [dispatchKnown_eq, hbody]
  have hexec := couplingInv_executing h b (.inr (hd.imp_right .inl)) (dirCode (headingDirection heading))
    (hpair h.config)
  exact { hexec with }

/-- The drive to the line enables the line sensor and names itself in `CMD_REG` (R50(f)). -/
theorem couplingInv_driveToLine : CouplingInv (dispatchKnown s.cfg.opDriveToLine bodyDriveToLine s) := by
  obtain ⟨m, c, hbody, hpair⟩ := bodyDriveToLine_spec (retire s)
  rw [dispatchKnown_eq, hbody]
  have hexec := couplingInv_executing h s.cfg.opDriveToLine (.inr (.inr (.inl rfl))) (dirCode .forward)
    (hpair h.config)
  exact { hexec with lineEnabled := fun _ => ⟨rfl, rfl⟩ }

/-- A rotation arms the watchdog and names itself in `CMD_REG` (R50(d)). -/
theorem couplingInv_rotate {b : Byte} (hb : isRotateByte s.cfg b = true) {ms : Nat} (hpos : 1 ≤ ms)
    (hle : ms ≤ s.cfg.t90Ms) (r : Rotation) : CouplingInv (dispatchKnown b (bodyRotate ms r) s) := by
  obtain ⟨m, c, hbody, hpair⟩ := bodyRotate_spec ms r (retire s)
  rw [dispatchKnown_eq, hbody]
  have hexec := couplingInv_executing h b (.inr (.inr (.inr rfl))) (dirCode (rotationDirection r)) (hpair h.config)
  exact { hexec with
    armed := fun _ => ⟨rfl, wdtLoad_pos h.config hpos hle, rfl, hb⟩
    fired := nofun }

/-- The alignment turns on the detector and nothing else (R50(a)). -/
theorem couplingInv_align (b : Byte) : CouplingInv (dispatchKnown b bodyAlignToBeacon s) := by
  obtain ⟨m, c, hbody, hpair⟩ := bodyAlignToBeacon_spec (retire s)
  rw [dispatchKnown_eq, hbody]
  have hexec := couplingInv_executing h b (.inr (.inr (.inr rfl)))
    (dirCode (rotationDirection s.cfg.beaconDir)) (hpair h.config)
  exact { hexec with
    captureSearching := iff_of_true rfl rfl
    searchingConverging := iff_of_true rfl rfl
    convergedIdle := nofun
    pendingContinue := nofun
    armed := nofun
    fired := nofun
    lineEnabled := nofun
    idleStopped := nofun }

/-- Every instruction keeps the invariants. -/
theorem couplingInv_exec {i : Instr} {t : State} (hexec : exec i s = .next t) : CouplingInv t := by
  obtain ⟨h45, h4590, -⟩ := wf_timeouts h.config
  cases i <;> cases hexec
  case nocmd => exact h
  case stop => exact couplingInv_stop h _
  case endRun => exact couplingInv_endRun h _
  case alignToBeacon => exact couplingInv_align h _
  case driveToLine => exact couplingInv_driveToLine h
  case rotateCW90 | rotateCCW90 => exact couplingInv_rotate h (by simp [isRotateByte]) (by omega) le_rfl _
  case rotateCW45 | rotateCCW45 => exact couplingInv_rotate h (by simp [isRotateByte]) h45 (by omega) _
  case driveForwardHalf | driveReverseHalf => exact couplingInv_drive h _ (.inl rfl) _
  case driveForwardFull | driveReverseFull => exact couplingInv_drive h _ (.inr rfl) _

/-! ## Every step -/

theorem couplingInv_dispatch {b : Byte} {t : State} (hdisp : dispatch b s = .next t) : CouplingInv t := by
  obtain ⟨i, -, hexec⟩ | ⟨b', -, rfl⟩ := dispatch_cases hdisp
  · exact couplingInv_exec h hexec
  · exact { h with }

/-- Every step of every agent keeps the invariants (R49, R50). -/
theorem couplingInv_perform {k : ScheduledStep} {t : State} (hstep : perform k s = .next t) : CouplingInv t := by
  obtain ⟨-, ⟨-, rfl⟩ | ⟨b, -, hdisp⟩ | ⟨-, hp, rfl⟩ | ⟨-, rfl⟩ | ⟨-, -, rfl⟩ | ⟨-, rfl⟩ | ⟨v, -, rfl⟩ | ⟨-, rfl⟩⟩ :=
    perform_cases hstep
  · exact couplingInv_tick h
  · exact couplingInv_dispatch h hdisp
  · exact couplingInv_wdtIsr h hp
  · exact couplingInv_edge h
  · exact couplingInv_handleContinue h
  · exact couplingInv_lineDone h
  · exact couplingInv_adSample h v
  · exact couplingInv_withSchedule (couplingInv_resetWith h.config) s.schedule

end

/-- Settles O52: agent by agent, and taking a step off the schedule touches no register. -/
theorem couplingInvariantKept : Obligations.CouplingInvariantKept := fun s _ h hstep =>
  couplingInv_perform (couplingInv_withSchedule h s.schedule.tail) hstep

end Sys2Proof.Machine
end

section
/-! The decoder and the encoder (spec/30_encoding.md R64 to R69): `decode` takes the first instruction of R68's order
whose byte it is, so a byte is unknown exactly when it is no instruction's byte. -/

namespace Sys2Proof.Machine

/-! ## The decoder as a search -/

/-- The order of the comparisons of R68: the sentinel first, then the commands in the order of the table. -/
def decodeOrder : List Instr :=
  [.nocmd, .stop, .rotateCW90, .rotateCW45, .rotateCCW90, .rotateCCW45, .driveForwardHalf, .driveForwardFull,
   .driveReverseHalf, .driveReverseFull, .alignToBeacon, .driveToLine, .endRun]

/-- The first instruction of a list whose byte is `b`. -/
def firstWithByte (c : Cfg) (b : Byte) : List Instr → Decoded
  | [] => .unknownOpcode b
  | i :: is => if b = encode c i then .instr i else firstWithByte c b is

theorem decode_eq_firstWithByte (c : Cfg) (b : Byte) : decode c b = firstWithByte c b decodeOrder := rfl

/-- R68 compares with every instruction's byte. -/
theorem mem_decodeOrder (i : Instr) : i ∈ decodeOrder := by cases i <;> decide

theorem firstWithByte_eq_unknown_iff {c : Cfg} {b b' : Byte} (is : List Instr) :
    firstWithByte c b is = .unknownOpcode b' ↔ b' = b ∧ ∀ i ∈ is, encode c i ≠ b := by
  induction is with
  | nil => simp [firstWithByte, eq_comm]
  | cons i is ih =>
    rw [firstWithByte]
    by_cases hb : b = encode c i
    · simp [hb]
    · simp [hb, Ne.symm hb, ih]

/-- The unknown opcodes are the bytes of no instruction, and an unknown opcode keeps its byte (R68, R69). -/
theorem decode_eq_unknown_iff {c : Cfg} {b b' : Byte} :
    decode c b = .unknownOpcode b' ↔ b' = b ∧ ∀ i : Instr, encode c i ≠ b := by
  simp [decode_eq_firstWithByte, firstWithByte_eq_unknown_iff, mem_decodeOrder]

/-! ## Encoding and decoding are inverse -/

/-- A well-formed instruction's byte is no other instruction's byte. -/
theorem eq_of_encode_eq_of_wf {c : Cfg} {i j : Instr} (hi : i.wf c = true) (he : encode c j = encode c i) : j = i := by
  simp only [Instr.wf, List.all_eq_true, Bool.or_eq_true, decide_eq_true_eq] at hi
  exact (hi j (Laws.mem_all j)).resolve_right fun hne => hne he

/-- The byte of a well-formed instruction decodes to it (R65 to R68). -/
theorem decode_encode {c : Cfg} {i : Instr} (hi : i.wf c = true) : decode c (encode c i) = .instr i := by
  cases hdec : decode c (encode c i) with
  | instr j => rw [eq_of_encode_eq_of_wf hi (encode_of_decode hdec)]
  | unknownOpcode b =>
    obtain ⟨-, hnone⟩ := decode_eq_unknown_iff.1 hdec
    exact absurd rfl (hnone i)

/-- Under a well-formed configuration every instruction's byte decodes to it: the opcodes are distinct (R66). -/
theorem decode_encode_of_wf {c : Cfg} (hwf : c.wf = true) (i : Instr) : decode c (encode c i) = .instr i :=
  decode_encode (Laws.wellFormedInstr_of_wf i c hwf)

/-! ## The default opcodes -/

/-- The default opcode of a command is its position in the table (R65). -/
theorem encode_reference_position : ∀ n : Fin 12, (encode Cfg.reference Instr.all[n]).toNat = n := by decide

/-- The default opcodes are 0x00 to 0x0B, and the sentinel is 0xFF (R65, R67). -/
theorem encode_reference_range (i : Instr) :
    (encode Cfg.reference i).toNat < 0x0C ∨ encode Cfg.reference i = 0xFF := by
  cases i <;> decide

/-- With the default opcodes the bytes 0x0C to 0xFE are left over (R69). -/
theorem encode_reference_ne_iff {b : Byte} :
    (∀ i : Instr, encode Cfg.reference i ≠ b) ↔ 0x0C ≤ b.toNat ∧ b.toNat ≤ 0xFE := by
  constructor
  · intro hnone
    have hlow : ¬ b.toNat < 12 := fun hb =>
      hnone _ (BitVec.eq_of_toNat_eq (encode_reference_position ⟨b.toNat, hb⟩))
    have hsentinel : b ≠ 0xFF := (hnone .nocmd).symm
    constructor <;> bv_omega
  · rintro ⟨hlow, hhigh⟩ i rfl
    obtain hi | hi := encode_reference_range i <;> bv_omega

/-! ## The obligations of spec/30_encoding.md about bytes -/

/-- Settles O1: what the byte decodes to has that byte, and a well-formed instruction shares its byte with no other. -/
theorem decodeInvertsEncode : Obligations.DecodeInvertsEncode := fun _ _ => decode_encode

/-- Settles O2: test by test, in the order of R68. -/
theorem encodeInvertsDecode : Obligations.EncodeInvertsDecode := fun _ _ _ => encode_of_decode

/-- Settles O3: the sentinel is tested first, and distinct opcodes leave the order of the other tests without effect. -/
theorem decodeFollowsItsOrder : Obligations.DecodeFollowsItsOrder := by
  intro c b
  refine ⟨?_, ?_, ?_, ?_⟩
  · rintro rfl
    exact decode_sentinel c
  · rintro hwf i rfl
    exact decode_encode_of_wf hwf i
  · exact fun hnone => decode_eq_unknown_iff.2 ⟨rfl, hnone⟩
  · exact fun hwf i j hi hj => Laws.encode_injective hwf (hi.trans hj.symm)

/-- Settles O4: the search fails exactly on the bytes of no instruction, and the default bytes are counted off. -/
theorem unknownOpcodesAreTheRest : Obligations.UnknownOpcodesAreTheRest := by
  have hrest (c : Cfg) (b : Byte) : decode c b = .unknownOpcode b ↔ ∀ i : Instr, encode c i ≠ b :=
    decode_eq_unknown_iff.trans (and_iff_right rfl)
  exact ⟨hrest, fun b => (hrest Cfg.reference b).trans encode_reference_ne_iff⟩

/-- Settles O5: the listed bytes are the default bytes of their commands, and the reference instantiation is well
formed. -/
theorem defaultBytesDecode : Obligations.DefaultBytesDecode := by
  have hdec := decode_encode_of_wf (c := Cfg.reference) (by decide)
  exact ⟨hdec .stop, hdec .rotateCW90, hdec .rotateCCW45, hdec .driveForwardFull, hdec .alignToBeacon,
    hdec .driveToLine, hdec .endRun, hdec .nocmd⟩

end Sys2Proof.Machine
end

section
/-! The command table (spec/30_encoding.md R70): the meanings of R80 to R91 leave the registers that each row names at
the row's values. -/

namespace Sys2Proof.Machine

/-- The state `t` that a command leaves from `s` has the values of the row (R70); a row without a timeout leaves
`WDT_TIMEOUT_MS` as it was (spec/41_watchdog.md R104). -/
structure AgreesWithRow (row : CommandRow) (s t : State) : Prop where
  duty : t.actDuty = row.duty
  dirLines : t.dir = row.dirLines
  capture : t.capIe = row.enablesCapture
  line : t.lineIe = row.enablesLine
  gate : t.gate = (s.gate && !row.clearsGate)
  armed : t.wdtArmed = row.timeoutMs.isSome
  timeout : ∀ ms, row.timeoutMs = some ms → t.wdtTimeoutMs.toNat = ms
  timeoutKept : row.timeoutMs = none → t.wdtTimeoutMs = s.wdtTimeoutMs

/-- The row that enables nothing: a duty and direction lines after `retire()` (spec/40_dispatcher.md R78). The other
rows differ from it in their own columns only. -/
theorem agreesWithRow_retire (d : Percent) (lines : BitVec 2) (s : State) :
    AgreesWithRow ⟨none, d, lines, false, false, false⟩ s { retire s with actDuty := d, dir := lines } where
  duty := rfl
  dirLines := rfl
  capture := rfl
  line := rfl
  gate := (Bool.and_true s.gate).symm
  armed := rfl
  timeout := nofun
  timeoutKept := fun _ => rfl

theorem agreesWithRow_stop (b : Byte) (s : State) :
    AgreesWithRow ⟨none, 0, stopDirCode, false, false, false⟩ s (dispatchKnown b bodyStop s) := by
  rw [dispatchKnown_eq, bodyStop_eq]
  exact { agreesWithRow_retire 0 stopDirCode s with }

/-- The end of the run closes the gate, whatever it was (R91). -/
theorem agreesWithRow_endRun (b : Byte) (s : State) :
    AgreesWithRow ⟨none, 0, stopDirCode, false, false, true⟩ s (dispatchKnown b bodyEndRun s) := by
  rw [dispatchKnown_eq, bodyEndRun_eq]
  exact { agreesWithRow_retire 0 stopDirCode s with gate := (Bool.and_false s.gate).symm }

theorem agreesWithRow_drive (b : Byte) (d : Percent) (h : Heading) (s : State) :
    AgreesWithRow ⟨none, d, dirCode (headingDirection h), false, false, false⟩ s
      (dispatchKnown b (bodyDrive d h) s) := by
  obtain ⟨m, c, hbody, -⟩ := bodyDrive_spec d h (retire s)
  rw [dispatchKnown_eq, hbody]
  exact { agreesWithRow_retire d (dirCode (headingDirection h)) s with }

/-- The drive to the line enables the line sensor besides (R90). -/
theorem agreesWithRow_driveToLine (b : Byte) (s : State) :
    AgreesWithRow ⟨none, fullDuty, dirCode .forward, false, true, false⟩ s (dispatchKnown b bodyDriveToLine s) := by
  obtain ⟨m, c, hbody, -⟩ := bodyDriveToLine_spec (retire s)
  rw [dispatchKnown_eq, hbody]
  exact { agreesWithRow_retire fullDuty (dirCode .forward) s with line := rfl }

/-- The alignment enables the capture besides (R89). -/
theorem agreesWithRow_align (b : Byte) (s : State) :
    AgreesWithRow ⟨none, s.cfg.rotDuty, dirCode (rotationDirection s.cfg.beaconDir), true, false, false⟩ s
      (dispatchKnown b bodyAlignToBeacon s) := by
  obtain ⟨m, c, hbody, -⟩ := bodyAlignToBeacon_spec (retire s)
  rw [dispatchKnown_eq, hbody]
  exact { agreesWithRow_retire s.cfg.rotDuty (dirCode (rotationDirection s.cfg.beaconDir)) s with capture := rfl }

/-- A rotation arms the watchdog besides, with a timeout that fits its register (R81 to R84). -/
theorem agreesWithRow_rotate (b : Byte) {ms : Nat} {s : State} (hwf : s.cfg.wf = true) (hms : ms ≤ s.cfg.t90Ms)
    (r : Rotation) :
    AgreesWithRow ⟨some ms, s.cfg.rotDuty, dirCode (rotationDirection r), false, false, false⟩ s
      (dispatchKnown b (bodyRotate ms r) s) := by
  obtain ⟨m, c, hbody, -⟩ := bodyRotate_spec ms r (retire s)
  rw [dispatchKnown_eq, hbody]
  exact { agreesWithRow_retire s.cfg.rotDuty (dirCode (rotationDirection r)) s with
    armed := rfl
    timeout := fun ms' hms' => (timeout_toNat hwf hms).trans (Option.some.inj hms')
    timeoutKept := nofun }

/-- Every command agrees with its row; the sentinel has none (R70). -/
theorem agreesWithRow_of_exec {s t : State} {i : Instr} {row : CommandRow} (hwf : s.cfg.wf = true)
    (hrow : commandRow s.cfg i = some row) (hexec : exec i s = .next t) : AgreesWithRow row s t := by
  obtain ⟨-, h4590, -⟩ := wf_timeouts hwf
  cases i <;> cases hrow <;> cases hexec
  case stop => exact agreesWithRow_stop _ s
  case endRun => exact agreesWithRow_endRun _ s
  case alignToBeacon => exact agreesWithRow_align _ s
  case driveToLine => exact agreesWithRow_driveToLine _ s
  case rotateCW90 => exact agreesWithRow_rotate _ hwf le_rfl .cw
  case rotateCW45 => exact agreesWithRow_rotate _ hwf h4590.le .cw
  case rotateCCW90 => exact agreesWithRow_rotate _ hwf le_rfl .ccw
  case rotateCCW45 => exact agreesWithRow_rotate _ hwf h4590.le .ccw
  case driveForwardHalf | driveForwardFull => exact agreesWithRow_drive _ _ .forward s
  case driveReverseHalf | driveReverseFull => exact agreesWithRow_drive _ _ .reverse s

/-- Settles O17: command by command, each differing from the row that enables nothing in its own columns. -/
theorem commandsAgreeWithTable : Obligations.CommandsAgreeWithTable := by
  intro s t i row hwf hrow hexec
  obtain ⟨hduty, hlines, hcapture, hline, hgate, harmed, htimeout, hkept⟩ := agreesWithRow_of_exec hwf hrow hexec
  exact ⟨hduty, hlines, hcapture, hline, hgate, harmed, htimeout, hkept⟩

end Sys2Proof.Machine
end

section
/-! The effect and the frame of each command and of the two bytes that are none (spec/40_dispatcher.md R77 to R92), and
of the line sensor's event (R96): one equation per shape of command, from which the obligations are read off. -/

namespace Sys2Proof.Machine

/-! ## Whole commands -/

/-- `dispatch(OP_Stop)` (R80). -/
theorem exec_stop_eq (s : State) : exec .stop s = .next { s with
    actDuty := 0, dir := 0b00, pwmMode := .forcedLow, motion := .idle, cmdReg := s.cfg.opStop
    wdtArmed := false, wdtCount := 0, wdtPend := false
    capIe := false, detState := .idle, contPend := false, lineIe := false
    trace := requestTrace s.gate (s.trace ++ [.stop .cmd]) } := by
  rw [exec, execStop, dispatchKnown_eq, bodyStop_eq]
  rfl

/-- `dispatch(OP_EndRun)`: the gate is closed when the request is tested (R91). -/
theorem exec_endRun_eq (s : State) : exec .endRun s = .next { s with
    actDuty := 0, dir := 0b00, pwmMode := .forcedLow, motion := .idle, cmdReg := s.cfg.opEndRun
    gate := false, wdtArmed := false, wdtCount := 0, wdtPend := false
    capIe := false, detState := .idle, contPend := false, lineIe := false
    trace := s.trace ++ [.stop .cmd] } := by
  rw [exec, execEndRun, dispatchKnown_eq, bodyEndRun_eq]
  rfl

/-- A rotation from its opcode, its timeout and its sense (R81 to R84). -/
theorem dispatchKnown_rotate_spec (b : Byte) (ms : Nat) (r : Rotation) (s : State) : ∃ m c,
    dispatchKnown b (bodyRotate ms r) s = { s with
        wdtArmed := true, wdtPend := false, wdtTimeoutMs := BitVec.ofNat 32 ms, wdtCount := wdtLoad s.cfg ms
        capIe := false, detState := .idle, contPend := false, lineIe := false
        actDuty := s.cfg.rotDuty, dir := dirCode (rotationDirection r), pwmMode := m, pwmCmp := c
        motion := .executing, cmdReg := b, trace := requestTrace s.gate s.trace }
      ∧ (s.cfg.wf = true → PwmPairFor s.cfg (s.cfg.rotDuty.val * s.scale.val / 100) s.pwmCmp m c) := by
  obtain ⟨m, c, hbody, hpair⟩ := bodyRotate_spec ms r (retire s)
  exact ⟨m, c, by rw [dispatchKnown_eq, hbody]; rfl, hpair⟩

/-- A drive that sets the line enable first: on for `DriveToLine` (R90), off as `retire()` leaves it for the four
drives (R85 to R88). -/
def bodyDriveLine (d : Percent) (h : Heading) (line : Bool) (s : State) : State :=
  bodyDrive d h { s with lineIe := line }

/-- `retire()` leaves the line enable off, so a drive is a drive that sets it off (R78). -/
theorem dispatchKnown_bodyDrive (b : Byte) (d : Percent) (h : Heading) (s : State) :
    dispatchKnown b (bodyDrive d h) s = dispatchKnown b (bodyDriveLine d h false) s := rfl

/-- The drive to the line sets it on (R90). -/
theorem bodyDriveToLine_eq : bodyDriveToLine = bodyDriveLine fullDuty .forward true := rfl

/-- A drive from its opcode, its duty, its sense and its line enable. -/
theorem dispatchKnown_drive_spec (b : Byte) (d : Percent) (h : Heading) (line : Bool) (s : State) : ∃ m c,
    dispatchKnown b (bodyDriveLine d h line) s = { s with
        wdtArmed := false, wdtPend := false, wdtCount := 0
        capIe := false, detState := .idle, contPend := false, lineIe := line
        actDuty := d, dir := dirCode (headingDirection h), pwmMode := m, pwmCmp := c
        motion := .executing, cmdReg := b, trace := requestTrace s.gate s.trace }
      ∧ (s.cfg.wf = true → PwmPairFor s.cfg (d.val * s.scale.val / 100) s.pwmCmp m c) := by
  obtain ⟨m, c, hbody, hpair⟩ := bodyDrive_spec d h { retire s with lineIe := line }
  exact ⟨m, c, by rw [dispatchKnown_eq, bodyDriveLine, hbody]; rfl, hpair⟩

/-- The alignment (R89). -/
theorem dispatchKnown_align_spec (b : Byte) (s : State) : ∃ m c,
    dispatchKnown b bodyAlignToBeacon s = { s with
        wdtArmed := false, wdtPend := false, wdtCount := 0, contPend := false, lineIe := false
        capIe := true, detState := .searching, sampleCount := 0, runningSumHz := 0
        actDuty := s.cfg.rotDuty, dir := dirCode (rotationDirection s.cfg.beaconDir)
        pwmMode := m, pwmCmp := c
        motion := .converging, cmdReg := b, trace := requestTrace s.gate s.trace }
      ∧ (s.cfg.wf = true → PwmPairFor s.cfg (s.cfg.rotDuty.val * s.scale.val / 100) s.pwmCmp m c) := by
  obtain ⟨m, c, hbody, hpair⟩ := bodyAlignToBeacon_spec (retire s)
  exact ⟨m, c, by rw [dispatchKnown_eq, hbody]; rfl, hpair⟩

/-- A line event with the line sensor off does nothing (R96). -/
theorem lineDone_of_lineIe_false {s : State} (hline : s.lineIe = false) : lineDone s = s := by
  simp [lineDone, hline]

/-! ## The shapes of the statements -/

/-- An instruction that dispatches a rotation, with a timeout that the watchdog can hold, rotates. -/
theorem rotatesTo_of_exec {i : Instr} {ms : Cfg → Nat} {op : Cfg → Byte} (r : Rotation)
    (hms : ∀ c : Cfg, c.wf = true → ms c ≤ c.t90Ms)
    (hexec : ∀ s, exec i s = .next (dispatchKnown (op s.cfg) (bodyRotate (ms s.cfg) r) s)) :
    RotatesTo i ms (dirCode (rotationDirection r)) ((dirCode (rotationDirection r)).getLsbD 0)
      ((dirCode (rotationDirection r)).getLsbD 1) op := by
  intro s hwf
  obtain ⟨m, c, hcmd, hpair⟩ := dispatchKnown_rotate_spec (op s.cfg) (ms s.cfg) r s
  refine ⟨_, (hexec s).trans (congrArg Host.Outcome.next hcmd), ?_, ?_, rfl, rfl, hpair hwf, rfl⟩
  · exact timeout_toNat hwf (hms s.cfg hwf)
  · exact wdtLoad_toNat hwf (hms s.cfg hwf)

/-- An instruction that dispatches a drive drives. -/
theorem drivesTo_of_exec {i : Instr} {op : Cfg → Byte} (d : Percent) (h : Heading) {reversed line : Bool}
    (hleft : (dirCode (headingDirection h)).getLsbD 0 = reversed)
    (hright : (dirCode (headingDirection h)).getLsbD 1 = reversed)
    (hexec : ∀ s, exec i s = .next (dispatchKnown (op s.cfg) (bodyDriveLine d h line) s)) :
    DrivesTo i d (dirCode (headingDirection h)) reversed line op := by
  intro s hwf
  obtain ⟨m, c, hcmd, hpair⟩ := dispatchKnown_drive_spec (op s.cfg) d h line s
  exact ⟨_, (hexec s).trans (congrArg Host.Outcome.next hcmd), hleft, hright, hpair hwf, rfl⟩

/-- The lines of a rotation: the left motor reverses counter-clockwise, the right one clockwise
(spec/10_state.md R25). -/
theorem rotation_lines (r : Rotation) :
    (dirCode (rotationDirection r)).getLsbD 0 = decide (r = .ccw)
      ∧ (dirCode (rotationDirection r)).getLsbD 1 = decide (r = .cw)
      ∧ dirCode (rotationDirection r) = if r = .cw then 0b10 else 0b01 := by
  cases r <;> decide

/-! ## The obligations of spec/40_dispatcher.md about single steps -/

/-- Settles O10: the body of `Stop` between `retire()` and the request. -/
theorem stopCommandResult : Obligations.StopCommandResult := exec_stop_eq

/-- Settles O11: as `Stop`, and the request is tested with the gate closed. -/
theorem endRunCommandResult : Obligations.EndRunCommandResult := exec_endRun_eq

/-- Settles O13: one shape four times, with timeouts not above `T90_MS`. -/
theorem rotateCommandsResult : Obligations.RotateCommandsResult := by
  have h90 (c : Cfg) (_ : c.wf = true) : c.t90Ms ≤ c.t90Ms := le_rfl
  have h45 (c : Cfg) (hwf : c.wf = true) : c.t45Ms ≤ c.t90Ms := (wf_timeouts hwf).2.1.le
  exact ⟨rotatesTo_of_exec .cw h90 fun _ => rfl, rotatesTo_of_exec .cw h45 fun _ => rfl,
    rotatesTo_of_exec .ccw h90 fun _ => rfl, rotatesTo_of_exec .ccw h45 fun _ => rfl⟩

/-- Settles O14: one shape four times, with the line sensor off. -/
theorem driveCommandsResult : Obligations.DriveCommandsResult :=
  ⟨drivesTo_of_exec 50 .forward rfl rfl fun _ => rfl, drivesTo_of_exec 100 .forward rfl rfl fun _ => rfl,
    drivesTo_of_exec 50 .reverse rfl rfl fun _ => rfl, drivesTo_of_exec 100 .reverse rfl rfl fun _ => rfl⟩

/-- Settles O15: a drive with the line sensor on. -/
theorem driveToLineCommandResult : Obligations.DriveToLineCommandResult :=
  drivesTo_of_exec 100 .forward rfl rfl fun _ => rfl

/-- Settles O16: the alignment, with the lines of `BEACON_DIR`. -/
theorem alignToBeaconCommandResult : Obligations.AlignToBeaconCommandResult := by
  intro s hwf
  obtain ⟨m, c, hcmd, hpair⟩ := dispatchKnown_align_spec s.cfg.opAlignToBeacon s
  obtain ⟨hleft, hright, hlines⟩ := rotation_lines s.cfg.beaconDir
  rw [← hlines]
  exact ⟨_, congrArg Host.Outcome.next hcmd, hleft, hright, hpair hwf, rfl⟩

/-- Settles O12: the sentinel is tested first, and a byte that decodes to `nocmd` is `nocmd`'s byte. -/
theorem nocmdChangesNothing : Obligations.NocmdChangesNothing := by
  refine ⟨fun _ => rfl, fun s hwf => ?_, fun c b hdec => (encode_of_decode hdec).symm⟩
  exact (perform_dispatch hwf _).trans (dispatch_of_decode (decode_sentinel s.cfg))

/-- Settles O7: an unknown opcode reaches the request and nothing else. -/
theorem unknownOpcodeOnlyRequests : Obligations.UnknownOpcodeOnlyRequests := by
  intro s b hwf hdec
  rw [perform_dispatch hwf, dispatch_of_unknown hdec, requestNext_eq]

/-- Settles O27: the line event tests its own enable only. -/
theorem lineEventResult : Obligations.LineEventResult := by
  intro s hwf
  have hstep : perform .lineDone s = .next (lineDone s) := if_pos hwf
  rw [hstep]
  exact ⟨fun hon => by rw [lineDone_eq, if_pos hon], fun hoff => by rw [lineDone_of_lineIe_false hoff]⟩

end Sys2Proof.Machine
end

section
/-! What a known command retires and what it leaves live (spec/40_dispatcher.md R76, R78; spec/41_watchdog.md R104). -/

namespace Sys2Proof.Machine

/-- The events that a command's body emits (R80, R91). -/
def commandEvents : Instr → List TraceEvent
  | .stop | .endRun => [.stop .cmd]
  | _ => []

/-- The state `t` that the known command `i` leaves from `s`: everything that could act later is retired, but for the
command's own source, and the trace has grown by the body's events and then the request. -/
structure CommandLeaves (i : Instr) (s t : State) : Prop where
  noContinue : t.contPend = false
  notFired : t.wdtPend = false
  disarmed : ownEnd i ≠ some .wdtIsr → t.wdtArmed = false
  captureOff : i ≠ .alignToBeacon → t.capIe = false
  lineOff : i ≠ .driveToLine → t.lineIe = false
  executing : runsUntilEnded i = true → t.motion = .executing
  trace : t.trace = requestTrace t.gate (s.trace ++ commandEvents i)

/-- A rotation leaves the watchdog armed and nothing else (R81 to R84). -/
theorem commandLeaves_rotate {i : Instr} (hi : ownEnd i = some .wdtIsr) (hevents : commandEvents i = []) (b : Byte)
    (ms : Nat) (r : Rotation) (s : State) : CommandLeaves i s (dispatchKnown b (bodyRotate ms r) s) := by
  obtain ⟨m, c, hcmd, -⟩ := dispatchKnown_rotate_spec b ms r s
  rw [hcmd]
  exact ⟨rfl, rfl, fun hne => absurd hi hne, fun _ => rfl, fun _ => rfl, fun _ => rfl,
    by rw [hevents, List.append_nil]⟩

/-- A drive leaves nothing, or the line sensor where it is the drive to the line (R85 to R88, R90). -/
theorem commandLeaves_drive {i : Instr} {line : Bool} (hline : line = true → i = .driveToLine)
    (hevents : commandEvents i = []) (b : Byte) (d : Percent) (h : Heading) (s : State) :
    CommandLeaves i s (dispatchKnown b (bodyDriveLine d h line) s) := by
  obtain ⟨m, c, hcmd, -⟩ := dispatchKnown_drive_spec b d h line s
  rw [hcmd]
  exact ⟨rfl, rfl, fun _ => rfl, fun _ => rfl, fun hne => Bool.eq_false_iff.2 fun hl => hne (hline hl), fun _ => rfl,
    by rw [hevents, List.append_nil]⟩

/-- The alignment leaves the capture on and nothing else (R89). -/
theorem commandLeaves_align (b : Byte) (s : State) :
    CommandLeaves .alignToBeacon s (dispatchKnown b bodyAlignToBeacon s) := by
  obtain ⟨m, c, hcmd, -⟩ := dispatchKnown_align_spec b s
  rw [hcmd]
  exact ⟨rfl, rfl, fun _ => rfl, fun hne => absurd rfl hne, fun _ => rfl, nofun,
    by simp [commandEvents]⟩

/-- Every known command retires what it does not own. -/
theorem commandLeaves_of_exec {i : Instr} {s t : State} (hi : i ≠ .nocmd) (h : exec i s = .next t) :
    CommandLeaves i s t := by
  cases i with
  | nocmd => exact absurd rfl hi
  | stop =>
    rw [exec_stop_eq] at h
    cases h
    exact ⟨rfl, rfl, fun _ => rfl, fun _ => rfl, fun _ => rfl, nofun, rfl⟩
  | endRun =>
    rw [exec_endRun_eq] at h
    cases h
    exact ⟨rfl, rfl, fun _ => rfl, fun _ => rfl, fun _ => rfl, nofun, rfl⟩
  | alignToBeacon =>
    cases h
    exact commandLeaves_align _ s
  | driveToLine =>
    cases h
    rw [bodyDriveToLine_eq]
    exact commandLeaves_drive (fun _ => rfl) rfl _ _ _ s
  | rotateCW90 | rotateCW45 | rotateCCW90 | rotateCCW45 =>
    cases h
    exact commandLeaves_rotate rfl rfl _ _ _ s
  | driveForwardHalf | driveForwardFull | driveReverseHalf | driveReverseFull =>
    cases h
    rw [dispatchKnown_bodyDrive]
    exact commandLeaves_drive (line := false) nofun rfl _ _ _ s

/-- The commands that run until they are ended emit nothing of their own (R100). -/
theorem commandEvents_of_runsUntilEnded {i : Instr} (h : runsUntilEnded i = true) : commandEvents i = [] := by
  cases i with
  | stop | endRun => cases h
  | _ => rfl

/-- `Stop` and `EndRun` leave the stop state, from any state (R80, R91). -/
theorem stoppedState_of_exec {i : Instr} {s t : State} (hi : i = .stop ∨ i = .endRun) (h : exec i s = .next t) :
    StoppedState t := by
  obtain rfl | rfl := hi
  · rw [exec_stop_eq] at h
    cases h
    exact ⟨rfl, rfl, rfl, rfl, rfl, rfl, rfl, rfl, rfl⟩
  · rw [exec_endRun_eq] at h
    cases h
    exact ⟨rfl, rfl, rfl, rfl, rfl, rfl, rfl, rfl, rfl⟩

/-! ## Events that find their source off -/

/-- The watchdog's handler is not enabled without a pending expiry (spec/41_watchdog.md R107). -/
theorem perform_wdtIsr_refused {s : State} (hwf : s.cfg.wf = true) (hp : s.wdtPend = false) :
    perform .wdtIsr s = .refused .wdtIsrNotEnabled := by
  simp [perform, hwf, wdtIsrEnabled, hp]

/-- The self-event's handler is not enabled without the self-event (spec/43_frequency_convergence.md R133). -/
theorem perform_handleContinue_refused {s : State} (hwf : s.cfg.wf = true) (hc : s.contPend = false) :
    perform .handleContinue s = .refused .handleContinueNotEnabled := by
  simp [perform, hwf, handleContinueEnabled, hc]

/-- An edge with the capture off does nothing (spec/42_capture_period.md R114). -/
theorem edge_of_capIe_false {s : State} (hcap : s.capIe = false) : edge s = s := by simp [edge, hcap]

/-- The dispatch of a known byte is the command of that byte (R76). -/
theorem exec_of_perform_known {b : Byte} {s t : State} (hb : isKnownByte s.cfg b = true)
    (h : perform (.dispatch b) s = .next t) : ∃ i, encode s.cfg i = b ∧ i ≠ .nocmd ∧ exec i s = .next t := by
  rw [perform_dispatch (perform_cases h).1] at h
  obtain ⟨i, hdec, hexec⟩ | ⟨b', hdec, -⟩ := dispatch_cases h
  · exact ⟨i, encode_of_decode hdec, by simpa [isKnownByte, hdec] using hb, hexec⟩
  · simp [isKnownByte, hdec] at hb

/-- Settles O41: of the four sources a known command leaves its own only. -/
theorem knownCommandRetiresEverything : Obligations.KnownCommandRetiresEverything := by
  intro b s t hb h
  obtain ⟨i, rfl, hi, hexec⟩ := exec_of_perform_known hb h
  have hleaves := commandLeaves_of_exec hi hexec
  have hwf : t.cfg.wf = true := perform_cfg h ▸ (perform_cases h).1
  refine ⟨perform_wdtIsr_refused hwf hleaves.notFired, perform_handleContinue_refused hwf hleaves.noContinue,
    fun hne => ?_, fun hne => ?_⟩
  · have hcap : t.capIe = false := hleaves.captureOff fun he => hne (congrArg (encode s.cfg) he)
    rw [perform, if_pos hwf, edge_of_capIe_false hcap]
  · have hline : t.lineIe = false := hleaves.lineOff fun he => hne (congrArg (encode s.cfg) he)
    exact (lineEventResult t hwf).2 hline

end Sys2Proof.Machine
end

section
/-! The request for the next command (spec/40_dispatcher.md R93, R95, R98): every step's own events are no requests,
and the requests it owes come after them. -/

namespace Sys2Proof.Machine

/-- The trace of `t` is that of `s`, then events that are no requests, then `n` requests. -/
def RequestsLast (n : Nat) (s t : State) : Prop :=
  ∃ own : List TraceEvent, .reqNext ∉ own ∧ t.trace = s.trace ++ own ++ List.replicate n .reqNext

theorem RequestsLast.reqCount_eq {n : Nat} {s t : State} (h : RequestsLast n s t) : reqCount t = reqCount s + n := by
  obtain ⟨own, hown, htrace⟩ := h
  simp [reqCount, htrace, List.count_eq_zero_of_not_mem hown]

theorem RequestsLast.getLast?_eq {s t : State} (h : RequestsLast 1 s t) : t.trace.getLast? = some .reqNext := by
  obtain ⟨own, -, htrace⟩ := h
  simp [htrace]

/-- A step that leaves the trace requests nothing. -/
theorem requestsLast_of_trace_eq {s t : State} (h : t.trace = s.trace) : RequestsLast 0 s t :=
  ⟨[], by simp, by simp [h]⟩

/-- A step that emits one event of another kind requests nothing. -/
theorem requestsLast_of_emit {s t : State} {e : TraceEvent} (he : .reqNext ≠ e) (h : t.trace = s.trace ++ [e]) :
    RequestsLast 0 s t :=
  ⟨[e], by simpa using he, by simp [h]⟩

/-- The last action of a dispatch adds one request if the gate is open (R76, R93). -/
theorem requestTrace_eq_append (gate : Bool) (tr : List TraceEvent) :
    requestTrace gate tr = tr ++ List.replicate (if gate then 1 else 0) .reqNext := by
  cases gate <;> simp [requestTrace]

/-- An edge emits a stop, a "continue aligning" or nothing (spec/43_frequency_convergence.md R129, R130). -/
theorem requestsLast_edge (s : State) : RequestsLast 0 s (edge s) := by
  obtain ⟨-, he⟩ | ⟨-, -, he⟩ | ⟨-, -, hz, a, -, rfl, ⟨-, he⟩ | ⟨-, -, he⟩ | ⟨-, -, he⟩⟩ := edge_spec s
  · exact requestsLast_of_trace_eq (by rw [he])
  · exact requestsLast_of_trace_eq (by rw [he, captureEdge_trace])
  · exact requestsLast_of_trace_eq (by rw [he, accumulate_trace, captureEdge_trace])
  · exact requestsLast_of_emit (e := .stop .beaconConverged) nofun
      (by rw [he, converge_eq, accumulate_trace, captureEdge_trace])
  · exact requestsLast_of_emit (e := .continueAligning) nofun
      (by rw [he, publishAndContinue_eq, accumulate_trace, captureEdge_trace])

/-- A line event emits a stop or nothing (R96). -/
theorem requestsLast_lineDone (s : State) : RequestsLast 0 s (lineDone s) := by
  rw [lineDone_eq]
  split_ifs
  · exact requestsLast_of_emit (e := .stop .lineDone) nofun rfl
  · exact requestsLast_of_trace_eq rfl

/-- A known command owes one request if its body leaves the gate open: `EndRun` closes it, no other command writes
it (R91, R93). -/
theorem requestsOf_of_exec {i : Instr} {s t : State} (hwf : s.cfg.wf = true) (hi : i ≠ .nocmd)
    (h : exec i s = .next t) :
    requestsOf s.cfg s.gate (.dispatch (encode s.cfg i)) = if t.gate then 1 else 0 := by
  have hbyte {j : Instr} (hj : i ≠ j) : encode s.cfg i ≠ encode s.cfg j := fun he =>
    hj (Laws.encode_injective hwf he)
  by_cases hend : i = .endRun
  · subst hend
    rw [exec_endRun_eq] at h
    cases h
    simp [requestsOf, encode]
  · have hsent : encode s.cfg i ≠ s.cfg.sentinel := hbyte hi
    have hne : encode s.cfg i ≠ s.cfg.opEndRun := hbyte hend
    have hgate : t.gate = s.gate := (commandWrites_of_exec hi h).gateKept hne
    simp [requestsOf, hsent, hne, hgate]

/-- A known command's request comes after its body's events (R76). -/
theorem requestsLast_of_exec {i : Instr} {s t : State} (hwf : s.cfg.wf = true) (hi : i ≠ .nocmd)
    (h : exec i s = .next t) : RequestsLast (requestsOf s.cfg s.gate (.dispatch (encode s.cfg i))) s t := by
  refine ⟨commandEvents i, by cases i <;> simp [commandEvents], ?_⟩
  rw [requestsOf_of_exec hwf hi h, ← requestTrace_eq_append, (commandLeaves_of_exec hi h).trace]

/-- A dispatch requests once, as its last event, unless the gate is closed, the byte is the sentinel or it ends the
run (R77, R91, R92, R93). -/
theorem requestsLast_dispatch {b : Byte} {s t : State} (hwf : s.cfg.wf = true) (h : dispatch b s = .next t) :
    RequestsLast (requestsOf s.cfg s.gate (.dispatch b)) s t := by
  obtain ⟨i, hdec, hexec⟩ | ⟨b', hdec, rfl⟩ := dispatch_cases h
  · obtain rfl := encode_of_decode hdec
    by_cases hi : i = .nocmd
    · subst hi
      cases hexec
      have hnone : requestsOf s.cfg s.gate (.dispatch (encode s.cfg .nocmd)) = 0 := by simp [requestsOf, encode]
      rw [hnone]
      exact requestsLast_of_trace_eq rfl
    · exact requestsLast_of_exec hwf hi hexec
  · obtain ⟨-, hnone⟩ := decode_eq_unknown_iff.1 hdec
    have hsent : b ≠ s.cfg.sentinel := (hnone .nocmd).symm
    have hne : b ≠ s.cfg.opEndRun := (hnone .endRun).symm
    exact ⟨[], by simp, by simp [requestTrace_eq_append, requestsOf, hsent, hne]⟩

/-- Every step but reset makes the requests it owes, after its own events. -/
theorem requestsLast_of_perform {k : ScheduledStep} {s t : State} (hk : k ≠ .reset) (h : perform k s = .next t) :
    RequestsLast (requestsOf s.cfg s.gate k) s t := by
  have hwrites := ownWrites_of_perform h hk
  obtain ⟨hwf, ⟨rfl, rfl⟩ | ⟨b, rfl, hdisp⟩ | ⟨rfl, -, rfl⟩ | ⟨rfl, rfl⟩ | ⟨rfl, -, rfl⟩ | ⟨rfl, rfl⟩ | ⟨v, rfl, rfl⟩
    | ⟨rfl, -⟩⟩ := perform_cases h
  · exact requestsLast_of_trace_eq (hwrites.trace nofun nofun nofun rfl)
  · exact requestsLast_dispatch hwf hdisp
  · exact requestsLast_of_emit (e := .stop .wdtFire) nofun (by rw [wdtIsr_eq])
  · exact requestsLast_edge s
  · exact requestsLast_of_trace_eq (hwrites.trace nofun nofun nofun rfl)
  · exact requestsLast_lineDone s
  · exact requestsLast_of_trace_eq (hwrites.trace nofun nofun nofun rfl)
  · exact absurd rfl hk

/-- Settles O47: agent by agent, and for a dispatch by what its byte decodes to. -/
theorem requestExactlyOncePerDispatch : Obligations.RequestExactlyOncePerDispatch := by
  intro k s t hk h
  have hreq := requestsLast_of_perform hk h
  exact ⟨hreq.reqCount_eq, fun hone => (hone ▸ hreq).getLast?_eq⟩

/-! ## Runs -/

/-- With the gate closed no step owes a request (R95). -/
theorem requestsOf_gate_closed (c : Cfg) (k : ScheduledStep) : requestsOf c false k = 0 := by
  cases k <;> simp [requestsOf]

/-- With the gate open a step that does not end the run owes a request if it dispatches a byte other than the
sentinel (R98). -/
theorem requestsOf_gate_open {c : Cfg} {k : ScheduledStep} (hk : k ≠ .dispatch c.opEndRun) :
    requestsOf c true k = if dispatchesNonSentinel c k then 1 else 0 := by
  cases k with
  | dispatch b =>
    have hb : b ≠ c.opEndRun := fun he => hk (congrArg _ he)
    simp [requestsOf, dispatchesNonSentinel, hb]
  | _ => rfl

/-- From a state with the gate open, and without `EndRun` and reset, each dispatch of a byte other than the sentinel
makes one request (R98). -/
theorem reqCount_of_performAll {ks : List ScheduledStep} {s u : State} (hgate : s.gate = true)
    (hks : ∀ k ∈ ks, k ≠ .reset ∧ k ≠ .dispatch s.cfg.opEndRun) (h : performAll ks s = .next u) :
    reqCount u = reqCount s + ks.countP (dispatchesNonSentinel s.cfg) := by
  induction ks generalizing s with
  | nil =>
    cases h
    rfl
  | cons k ks ih =>
    obtain ⟨t, hstep, hrun⟩ := performAll_cons h
    obtain ⟨hreset, hend⟩ := hks k List.mem_cons_self
    have hcfg : t.cfg = s.cfg := perform_cfg hstep
    have hopen : t.gate = true := ((ownWrites_of_perform hstep hreset).gate hend).trans hgate
    have hrest := ih hopen (fun l hl => hcfg ▸ hks l (List.mem_cons_of_mem k hl)) hrun
    have hfirst : reqCount t = reqCount s + requestsOf s.cfg s.gate k :=
      (requestsLast_of_perform hreset hstep).reqCount_eq
    rw [hgate, requestsOf_gate_open hend] at hfirst
    rw [hrest, hfirst, hcfg, List.countP_cons, Nat.add_assoc, Nat.add_comm (ite ..)]

/-- Settles O48: reset opens the gate and empties the trace. -/
theorem requestCountIsDispatchCount : Obligations.RequestCountIsDispatchCount := by
  intro c ks s hks h
  have hcount := reqCount_of_performAll (s := State.resetWith c) rfl hks h
  exact hcount.trans (Nat.zero_add _)

/-- With the gate closed a step other than reset leaves it closed and requests nothing (R91, R95). -/
theorem perform_gate_closed {k : ScheduledStep} {s t : State} (hk : k ≠ .reset) (hgate : s.gate = false)
    (h : perform k s = .next t) : t.gate = false ∧ reqCount t = reqCount s := by
  constructor
  · by_contra hopen
    obtain ⟨hclosed, -⟩ | ⟨-, hreset⟩ := gateClosedByEndRunOpenedByReset k s t h (hgate ▸ hopen)
    · exact hopen hclosed
    · exact hk hreset
  · rw [(requestsLast_of_perform hk h).reqCount_eq, hgate, requestsOf_gate_closed, Nat.add_zero]

/-- Settles O50: a closed gate and the number of requests are an invariant of the run. -/
theorem noRequestUntilReset : Obligations.NoRequestUntilReset := by
  intro ks s t hgate hks h
  refine performAll_invariant (P := fun u => u.gate = false ∧ reqCount u = reqCount s) ?_ ks s t hks ⟨hgate, rfl⟩ h
  rintro k u v hk ⟨hu, hcount⟩ hstep
  obtain ⟨hv, hsame⟩ := perform_gate_closed hk hu hstep
  exact ⟨hv, hsame.trans hcount⟩

end Sys2Proof.Machine
end

section
/-! The stop state and the life of a command (spec/40_dispatcher.md R99, R100): in a state with no live source but the
one whose event is left out, every step that dispatches no known command leaves the motion and the request to the
actuator as they are. -/

namespace Sys2Proof.Machine

/-- Nothing is armed, pending or enabled, but what belongs to the event `own`. -/
structure NoSourceBut (own : Option ScheduledStep) (s : State) : Prop where
  captureOff : s.capIe = false
  noContinue : s.contPend = false
  disarmed : own ≠ some .wdtIsr → s.wdtArmed = false
  notFired : own ≠ some .wdtIsr → s.wdtPend = false
  lineOff : own ≠ some .lineDone → s.lineIe = false

/-- In the stop state there is no source at all. -/
theorem StoppedState.noSource {s : State} (h : StoppedState s) : NoSourceBut none s :=
  ⟨h.captureOff, h.noContinue, fun _ => h.disarmed, fun _ => h.notFired, fun _ => h.lineOff⟩

/-- A command that runs until it is ended leaves no source but that of its own end (R78, R100). -/
theorem noSourceBut_of_exec {i : Instr} {s t : State} (hi : runsUntilEnded i = true) (h : exec i s = .next t) :
    NoSourceBut (ownEnd i) t := by
  have hleaves : CommandLeaves i s t := commandLeaves_of_exec (by rintro rfl; cases hi) h
  exact {
    captureOff := hleaves.captureOff (by rintro rfl; cases hi)
    noContinue := hleaves.noContinue
    disarmed := hleaves.disarmed
    notFired := fun _ => hleaves.notFired
    lineOff := fun hne => hleaves.lineOff (by rintro rfl; exact hne rfl) }

/-- What a step can do where there is no source but that of `own`, if it is neither `own`, nor a known command, nor a
reset: nothing, a tick, the request of an unknown opcode, or a new scale. -/
theorem perform_cases_of_noSource {own : Option ScheduledStep} {k : ScheduledStep} {s t : State}
    (hs : NoSourceBut own s) (hknown : dispatchesKnown s.cfg k = false) (hreset : k ≠ .reset) (hown : own ≠ some k)
    (h : perform k s = .next t) :
    t = s ∨ t = tick s ∨ t = { s with trace := requestTrace s.gate s.trace } ∨ ∃ v, t = adSample v s := by
  obtain ⟨-, ⟨rfl, rfl⟩ | ⟨b, rfl, hdisp⟩ | ⟨rfl, hp, -⟩ | ⟨rfl, rfl⟩ | ⟨rfl, hc, -⟩ | ⟨rfl, rfl⟩ | ⟨v, rfl, rfl⟩
    | ⟨rfl, -⟩⟩ := perform_cases h
  · exact .inr (.inl rfl)
  · obtain rfl | ⟨-, rfl⟩ | ⟨hb, -⟩ := dispatch_writes hdisp
    · exact .inl rfl
    · exact .inr (.inr (.inl rfl))
    · exact absurd (hb.symm.trans hknown) nofun
  · exact absurd (hp.symm.trans (hs.notFired hown)) nofun
  · exact .inl (edge_of_capIe_false hs.captureOff)
  · exact absurd (hc.symm.trans hs.noContinue) nofun
  · exact .inl (lineDone_of_lineIe_false (hs.lineOff hown))
  · exact .inr (.inr (.inr ⟨v, rfl⟩))
  · exact absurd rfl hreset

/-- A tick of a disarmed watchdog writes the two free-running counters only (spec/41_watchdog.md R105). -/
theorem tick_of_disarmed {s : State} (h : s.wdtArmed = false) : tick s = { s with
    pwmCnt := if s.pwmCnt = 0 then BitVec.ofNat 16 (s.cfg.pwmPeriod - 1) else s.pwmCnt - 1
    capTimer := s.capTimer + 1 } := by
  obtain ⟨a, n, p, htick, ⟨-, rfl, rfl, rfl⟩ | ⟨harmed, -⟩ | ⟨harmed, -⟩⟩ := tick_spec s
  · rw [htick, ← h]
  · exact absurd (harmed.symm.trans h) nofun
  · exact absurd (harmed.symm.trans h) nofun

/-! ## The stop state -/

/-- A new scale leaves a stopped robot stopped: the effective duty stays 0 (spec/44_pwm_actuation.md R150). -/
theorem stoppedState_adSample {s : State} (hwf : s.cfg.wf = true) (h : StoppedState s) (v : AdValue) :
    StoppedState (adSample v s) := by
  obtain ⟨-, ha⟩ | ⟨p, m, c, -, ha, hpair⟩ := adSample_spec v s
  · rw [ha]
    exact h
  · have hlow := hpair hwf
    rw [h.duty] at hlow
    rw [ha]
    exact { h with output := forcedLow_of_pwmPairFor_zero (by simpa using hlow) }

/-- Every step that dispatches no known command keeps the stop state (R99). -/
theorem stoppedState_perform {k : ScheduledStep} {s t : State} (h : StoppedState s)
    (hknown : dispatchesKnown s.cfg k = false) (hstep : perform k s = .next t) : StoppedState t := by
  have hwf := (perform_cases hstep).1
  by_cases hreset : k = .reset
  · subst hreset
    have ht : perform .reset s = .next (performReset s) := if_pos hwf
    cases hstep.symm.trans ht
    exact { stoppedState_resetWith s.cfg with }
  · obtain rfl | rfl | rfl | ⟨v, rfl⟩ := perform_cases_of_noSource h.noSource hknown hreset nofun hstep
    · exact h
    · rw [tick_of_disarmed h.disarmed]
      exact { h with }
    · exact { h with }
    · exact stoppedState_adSample hwf h v

/-- Settles O60: with no live source a step does nothing, ticks, requests or scales a duty that is 0. -/
theorem stopStateKeptByEveryStep : Obligations.StopStateKeptByEveryStep := by
  refine ⟨fun s t h hknown hstep => ?_, fun i s t => stoppedState_of_exec, stoppedState_resetWith⟩
  have hpop : StoppedState (popSchedule s) := { h with }
  exact stoppedState_perform hpop hknown hstep

/-- In the stop state the output is low (spec/44_pwm_actuation.md R143). -/
theorem StoppedState.pwmOut_eq {s : State} (h : StoppedState s) : pwmOut s = false := by
  simp [pwmOut, h.output]

/-- Settles O51: the stop state is an invariant of the run. -/
theorem stoppedUntilNextCommand : Obligations.StoppedUntilNextCommand := by
  intro i ks s t u hi hexec hks hrun
  have hi' : i ≠ .nocmd := by rintro rfl; simp at hi
  have hcfg : t.cfg = s.cfg := (commandWrites_of_exec hi' hexec).cfg
  have hstopped : u.cfg = s.cfg ∧ StoppedState u := by
    refine performAll_invariant (P := fun v => v.cfg = s.cfg ∧ StoppedState v) ?_ ks t u hks
      ⟨hcfg, stoppedState_of_exec hi hexec⟩ hrun
    rintro k v w hk ⟨hv, hstop⟩ hstep
    exact ⟨(perform_cfg hstep).trans hv, stoppedState_perform hstop (hv ▸ hk) hstep⟩
  obtain ⟨-, hstop⟩ := hstopped
  exact ⟨hstop.duty, hstop.lines, hstop.motion, hstop.pwmOut_eq⟩

/-! ## The life of a command -/

/-- A request is no stop. -/
theorem stopCount_of_requestTrace {gate : Bool} {s t : State} (h : t.trace = requestTrace gate s.trace) :
    stopCount t = stopCount s := by
  cases gate <;> simp [stopCount, h, requestTrace]

/-- The motion that `s` began goes on in `t`: the same request to the actuator, no stop, and still no source but that
of `own`. -/
structure GoesOn (own : Option ScheduledStep) (s t : State) : Prop where
  cfg : t.cfg = s.cfg
  quiet : NoSourceBut own t
  motion : t.motion = s.motion
  duty : t.actDuty = s.actDuty
  lines : t.dir = s.dir
  stops : stopCount t = stopCount s

theorem goesOn_refl {own : Option ScheduledStep} {s : State} (h : NoSourceBut own s) : GoesOn own s s :=
  ⟨rfl, h, rfl, rfl, rfl, rfl⟩

/-- A tick writes counters and the watchdog, which stays disarmed unless it is the source of `own`. -/
theorem goesOn_tick {own : Option ScheduledStep} {s t : State} (h : GoesOn own s t) : GoesOn own s (tick t) := by
  have hquiet := h.quiet
  by_cases hown : own = some .wdtIsr
  · obtain ⟨a, n, p, htick, -⟩ := tick_spec t
    rw [htick]
    exact { h with
      quiet := { hquiet with
        disarmed := fun hne => absurd hown hne
        notFired := fun hne => absurd hown hne } }
  · rw [tick_of_disarmed (hquiet.disarmed hown)]
    exact { h with quiet := { hquiet with } }

/-- A new scale writes the compare pair (spec/44_pwm_actuation.md R150). -/
theorem goesOn_adSample {own : Option ScheduledStep} {s t : State} (h : GoesOn own s t) (v : AdValue) :
    GoesOn own s (adSample v t) := by
  have hquiet := h.quiet
  obtain ⟨-, ha⟩ | ⟨p, m, c, -, ha, -⟩ := adSample_spec v t
  · rw [ha]
    exact h
  · rw [ha]
    exact { h with quiet := { hquiet with } }

/-- A motion goes on through every step that is neither its own end, nor a known command, nor a reset (R100). -/
theorem goesOn_perform {own : Option ScheduledStep} {k : ScheduledStep} {s t u : State} (h : GoesOn own s t)
    (hknown : dispatchesKnown s.cfg k = false) (hreset : k ≠ .reset) (hown : own ≠ some k)
    (hstep : perform k t = .next u) : GoesOn own s u := by
  have hquiet := h.quiet
  obtain rfl | rfl | rfl | ⟨v, rfl⟩ := perform_cases_of_noSource hquiet (h.cfg ▸ hknown) hreset hown hstep
  · exact h
  · exact goesOn_tick h
  · exact { h with
      quiet := { hquiet with }
      stops := (stopCount_of_requestTrace rfl).trans h.stops }
  · exact goesOn_adSample h v

/-- Settles O18: the command leaves no source but that of its own end, so its motion goes on through the run. -/
theorem commandLivesUntilItsEnd : Obligations.CommandLivesUntilItsEnd := by
  intro i ks s t u _ hi hexec hks hrun
  have hi' : i ≠ .nocmd := by rintro rfl; cases hi
  have hleaves := commandLeaves_of_exec hi' hexec
  have hcfg : t.cfg = s.cfg := (commandWrites_of_exec hi' hexec).cfg
  have htrace : t.trace = requestTrace t.gate s.trace := by
    rw [hleaves.trace, commandEvents_of_runsUntilEnded hi, List.append_nil]
  have hgoes : GoesOn (ownEnd i) t u := by
    refine performAll_invariant (P := GoesOn (ownEnd i) t) ?_ ks t u hks (goesOn_refl (noSourceBut_of_exec hi hexec))
      hrun
    rintro k v w ⟨hknown, hreset, hown⟩ hv hstep
    exact goesOn_perform hv (hcfg ▸ hknown) hreset hown hstep
  exact ⟨hgoes.motion.trans (hleaves.executing hi), hgoes.duty, hgoes.lines,
    hgoes.stops.trans (stopCount_of_requestTrace htrace)⟩

end Sys2Proof.Machine
end

section
/-! The clock over many ticks (spec/70_reset_and_hazards.md R191): the two free-running counters and the watchdog do
not read each other, so `n` ticks are settled one register group at a time. The watchdog expires at the end of its
load (spec/41_watchdog.md R106, R109). -/

namespace Sys2Proof.Machine

/-- The state with the two free-running counters replaced. -/
def withCounters (cnt : Word16) (timer : Word32) (s : State) : State := { s with pwmCnt := cnt, capTimer := timer }

/-! ## The watchdog after `n` ticks -/

/-- A disarmed watchdog does not move (R105). -/
theorem wdtAfterTicks_of_disarmed {s : State} (h : s.wdtArmed = false) (n : Nat) : wdtAfterTicks n s = s := by
  simp [wdtAfterTicks, h]

/-- Before the end of its count an armed watchdog has counted `n` down. -/
theorem wdtAfterTicks_of_lt {s : State} {n : Nat} (h : s.wdtArmed = true) (hn : n < s.wdtCount.toNat) :
    wdtAfterTicks n s = { s with wdtCount := BitVec.ofNat 32 (s.wdtCount.toNat - n) } := by
  have hlt : n < max s.wdtCount.toNat 1 := by omega
  rw [wdtAfterTicks, if_pos h, if_pos hlt]

/-- At the end of its count an armed watchdog has expired, once (R106). -/
theorem wdtAfterTicks_of_ge {s : State} {n : Nat} (h : s.wdtArmed = true) (hpos : 1 ≤ n)
    (hn : s.wdtCount.toNat ≤ n) :
    wdtAfterTicks n s = { s with wdtCount := 0, wdtArmed := false, wdtPend := true } := by
  have hge : ¬n < max s.wdtCount.toNat 1 := by omega
  rw [wdtAfterTicks, if_pos h, if_neg hge]

/-- No ticks leave the watchdog as it is. -/
theorem wdtAfterTicks_zero (s : State) : wdtAfterTicks 0 s = s := by
  unfold wdtAfterTicks
  split_ifs with h hlt
  · simp
  · omega
  · rfl

/-- The closed form of the watchdog takes one tick and then `n` (R109). -/
theorem wdtAfterTicks_tickWdt (n : Nat) (s : State) : wdtAfterTicks n (tickWdt s) = wdtAfterTicks (n + 1) s := by
  obtain ⟨a, c, p, htick, ⟨harmed, rfl, rfl, rfl⟩ | ⟨harmed, hc, rfl, rfl, rfl⟩ | ⟨harmed, hc, rfl, rfl, rfl⟩⟩ :=
    tickWdt_spec s
  · rw [htick, wdtAfterTicks_of_disarmed rfl, wdtAfterTicks_of_disarmed harmed, ← harmed]
  · rw [htick, wdtAfterTicks_of_disarmed rfl, wdtAfterTicks_of_ge harmed (by omega) (by omega)]
  · have hpred : (s.wdtCount - 1).toNat = s.wdtCount.toNat - 1 := by bv_omega
    by_cases hn : n + 1 < s.wdtCount.toNat
    · have hsub : s.wdtCount.toNat - 1 - n = s.wdtCount.toNat - (n + 1) := by omega
      rw [htick, wdtAfterTicks_of_lt rfl (by rw [hpred]; omega), wdtAfterTicks_of_lt harmed hn, ← harmed, hpred, hsub]
    · rw [htick, wdtAfterTicks_of_ge rfl (by omega) (by rw [hpred]; omega),
        wdtAfterTicks_of_ge harmed (by omega) (by omega)]

/-- The watchdog does not read the counters. -/
theorem tickWdt_withCounters (cnt : Word16) (timer : Word32) (s : State) :
    tickWdt (withCounters cnt timer s) = withCounters cnt timer (tickWdt s) := by
  unfold tickWdt withCounters
  split_ifs <;> rfl

/-- A tick is a watchdog tick with the counters moved (R190). -/
theorem withCounters_tick (cnt : Word16) (timer : Word32) (s : State) :
    withCounters cnt timer (tick s) = tickWdt (withCounters cnt timer s) := by
  rw [tick, ← tickWdt_withCounters, tickPwm_eq]
  rfl

/-- `n` ticks are the watchdog's closed form, with the counters moved. -/
theorem tickTimes_eq_wdtAfterTicks (n : Nat) (s : State) :
    tickTimes n s = wdtAfterTicks n (withCounters (tickTimes n s).pwmCnt (tickTimes n s).capTimer s) := by
  induction n generalizing s with
  | zero => exact (wdtAfterTicks_zero s).symm
  | succ n ih =>
    calc tickTimes n (tick s)
        = wdtAfterTicks n (withCounters (tickTimes n (tick s)).pwmCnt (tickTimes n (tick s)).capTimer (tick s)) :=
          ih (tick s)
      _ = _ := by rw [withCounters_tick, wdtAfterTicks_tickWdt, tickTimes]

/-- Settles O38: the armed count is the load, and the closed form has its two cases. -/
theorem watchdogExpiresAtItsLoad : Obligations.WatchdogExpiresAtItsLoad := by
  intro t n s hload
  rw [tickTimes_eq_wdtAfterTicks n (wdtArm t s)]
  refine ⟨fun hn => ?_, fun hn => ?_⟩
  · rw [wdtAfterTicks_of_lt rfl hn]
    have hfits : (wdtLoad s.cfg t).toNat - n < 2 ^ 32 := by omega
    exact ⟨Nat.mod_eq_of_lt hfits, rfl, rfl⟩
  · rw [wdtAfterTicks_of_ge rfl (hload.trans hn) hn]
    exact ⟨rfl, rfl, rfl⟩

/-! ## The free-running counters after `n` ticks -/

@[simp] theorem tick_cfg (s : State) : (tick s).cfg = s.cfg := by
  obtain ⟨a, c, p, htick, -⟩ := tick_spec s
  rw [htick]

@[simp] theorem tick_capTimer (s : State) : (tick s).capTimer = s.capTimer + 1 := by
  obtain ⟨a, c, p, htick, -⟩ := tick_spec s
  rw [htick]

@[simp] theorem tick_pwmCnt (s : State) :
    (tick s).pwmCnt = if s.pwmCnt = 0 then BitVec.ofNat 16 (s.cfg.pwmPeriod - 1) else s.pwmCnt - 1 := by
  obtain ⟨a, c, p, htick, -⟩ := tick_spec s
  rw [htick]

/-- The time base has moved by `n`, modulo 2^32 (spec/42_capture_period.md R112). -/
theorem tickTimes_capTimer (n : Nat) (s : State) : (tickTimes n s).capTimer = s.capTimer + BitVec.ofNat 32 n := by
  induction n generalizing s with
  | zero => exact (BitVec.add_zero _).symm
  | succ n ih =>
    have hsum : BitVec.ofNat 32 (n + 1) = BitVec.ofNat 32 n + 1 := BitVec.ofNat_add n 1
    rw [tickTimes, ih, tick_capTimer, BitVec.add_assoc, BitVec.add_comm 1, hsum]

/-- One tick takes the period counter one back around the period (spec/44_pwm_actuation.md R142). -/
theorem tick_pwmCnt_modEq {s : State} (hwf : s.cfg.wf = true) (hcnt : s.pwmCnt.toNat < s.cfg.pwmPeriod) :
    (tick s).pwmCnt.toNat < s.cfg.pwmPeriod
      ∧ (tick s).pwmCnt.toNat + 1 ≡ s.pwmCnt.toNat [MOD s.cfg.pwmPeriod] := by
  obtain ⟨hpos, hlt⟩ := wf_period hwf
  rw [tick_pwmCnt]
  split_ifs with h0
  · have hreload : (BitVec.ofNat 16 (s.cfg.pwmPeriod - 1)).toNat = s.cfg.pwmPeriod - 1 :=
      Nat.mod_eq_of_lt (by omega)
    rw [hreload, Nat.sub_add_cancel hpos, h0]
    exact ⟨by omega, Nat.modEq_zero_iff_dvd.2 dvd_rfl⟩
  · have hpred : (s.pwmCnt - 1).toNat + 1 = s.pwmCnt.toNat := by bv_omega
    exact ⟨by omega, by rw [hpred]⟩

/-- `n` ticks take the period counter `n` back around the period (R159). -/
theorem tickTimes_pwmCnt_modEq (n : Nat) {s : State} (hwf : s.cfg.wf = true)
    (hcnt : s.pwmCnt.toNat < s.cfg.pwmPeriod) :
    (tickTimes n s).pwmCnt.toNat < s.cfg.pwmPeriod
      ∧ (tickTimes n s).pwmCnt.toNat + n ≡ s.pwmCnt.toNat [MOD s.cfg.pwmPeriod] := by
  induction n generalizing s with
  | zero => exact ⟨hcnt, rfl⟩
  | succ n ih =>
    obtain ⟨htick, hback⟩ := tick_pwmCnt_modEq hwf hcnt
    have hrest := ih (s := tick s) (by rwa [tick_cfg]) (by rwa [tick_cfg])
    rw [tick_cfg] at hrest
    exact ⟨hrest.1, (hrest.2.add_right 1).trans hback⟩

/-- The only value below the period that is `n` back around it is the closed form (R159). -/
theorem eq_pwmCntAfterTicks {period cnt n x : Nat} (hx : x < period) (h : x + n ≡ cnt [MOD period]) :
    x = pwmCntAfterTicks period cnt n := by
  have hmod : n % period < period := Nat.mod_lt n (by omega)
  have hsum : x + period ≡ cnt + (period - n % period) [MOD period] := by
    calc x + period = x + n % period + (period - n % period) := by omega
      _ ≡ x + n + (period - n % period) [MOD period] := ((Nat.mod_modEq n period).add_left x).add_right _
      _ ≡ cnt + (period - n % period) [MOD period] := h.add_right _
  have hx' : x = (x + period) % period := by rw [Nat.add_mod_right, Nat.mod_eq_of_lt hx]
  exact hx'.trans hsum

/-- Settles O37: the watchdog by its closed form, the time base by addition, the period counter by its residue. -/
theorem ticksAtOnceAreTicks : Obligations.TicksAtOnceAreTicks := by
  intro n s hwf _ hcnt
  obtain ⟨hlt, hback⟩ := tickTimes_pwmCnt_modEq n hwf hcnt
  have hpwm : (tickTimes n s).pwmCnt = BitVec.ofNat 16 (pwmCntAfterTicks s.cfg.pwmPeriod s.pwmCnt.toNat n) := by
    rw [← eq_pwmCntAfterTicks hlt hback, BitVec.ofNat_toNat, BitVec.setWidth_eq]
  rw [tickTimes_eq_wdtAfterTicks, hpwm, tickTimes_capTimer]
  rfl

end Sys2Proof.Machine
end

section
/-! The watchdog's expiry and its handler (spec/41_watchdog.md R107, R108): who emits `Stop(WdtFire)`, how often it can
still be emitted before the next arm, and that a fair execution settles a pending expiry. -/

namespace Sys2Proof.Machine

/-- Settles O19: the handler is performed where the expiry is pending, and refused elsewhere. -/
theorem watchdogHandlerResult : Obligations.WatchdogHandlerResult := by
  intro s hwf
  refine ⟨fun hp => ?_, perform_wdtIsr_refused hwf⟩
  rw [← wdtIsr_eq]
  simp [perform, hwf, wdtIsrEnabled, hp]

/-! ## The count of `Stop(WdtFire)` -/

/-- Events of another kind do not count. -/
theorem fireCount_of_append {s t : State} {own : List TraceEvent} (hown : .stop .wdtFire ∉ own)
    (h : t.trace = s.trace ++ own) : fireCount t = fireCount s := by
  simp [fireCount, h, List.count_eq_zero_of_not_mem hown]

theorem fireCount_of_trace_eq {s t : State} (h : t.trace = s.trace) : fireCount t = fireCount s := by
  rw [fireCount, h, fireCount]

/-- A request is no fire. -/
theorem fireCount_of_requestTrace {gate : Bool} {s t : State} (h : t.trace = requestTrace gate s.trace) :
    fireCount t = fireCount s := by
  rw [requestTrace_eq_append] at h
  exact fireCount_of_append (by simp [List.mem_replicate]) h

/-- The handler fires once (R107). -/
theorem fireCount_wdtIsr (s : State) : fireCount (wdtIsr s) = fireCount s + 1 := by
  rw [wdtIsr_eq]
  simp [fireCount]

/-- A command's stop has another cause (spec/00_scope.md R14). -/
theorem fireCount_dispatch {b : Byte} {s t : State} (h : dispatch b s = .next t) : fireCount t = fireCount s := by
  obtain ⟨i, -, hexec⟩ | ⟨b', -, rfl⟩ := dispatch_cases h
  · by_cases hi : i = .nocmd
    · subst hi
      cases hexec
      rfl
    · have htrace := (commandLeaves_of_exec hi hexec).trace
      rw [requestTrace_eq_append, List.append_assoc] at htrace
      exact fireCount_of_append (by cases i <;> simp [commandEvents, List.mem_replicate]) htrace
  · exact fireCount_of_requestTrace rfl

/-- The detector's stop has another cause (spec/43_frequency_convergence.md R129). -/
theorem fireCount_edge (s : State) : fireCount (edge s) = fireCount s := by
  obtain ⟨-, he⟩ | ⟨-, -, he⟩ | ⟨-, -, hz, a, -, rfl, ⟨-, he⟩ | ⟨-, -, he⟩ | ⟨-, -, he⟩⟩ := edge_spec s
  · rw [he]
  · exact fireCount_of_trace_eq (by rw [he, captureEdge_trace])
  · exact fireCount_of_trace_eq (by rw [he, accumulate_trace, captureEdge_trace])
  · exact fireCount_of_append (own := [.stop .beaconConverged]) (by simp)
      (by rw [he, converge_eq, accumulate_trace, captureEdge_trace])
  · exact fireCount_of_append (own := [.continueAligning]) (by simp)
      (by rw [he, publishAndContinue_eq, accumulate_trace, captureEdge_trace])

/-- The line sensor's stop has another cause (spec/40_dispatcher.md R96). -/
theorem fireCount_lineDone (s : State) : fireCount (lineDone s) = fireCount s := by
  rw [lineDone_eq]
  split_ifs
  · exact fireCount_of_append (own := [.stop .lineDone]) (by simp) rfl
  · rfl

/-- Of the steps other than reset only the handler fires (R108). -/
theorem fireCount_of_perform {k : ScheduledStep} {s t : State} (hk : k ≠ .reset) (hisr : k ≠ .wdtIsr)
    (h : perform k s = .next t) : fireCount t = fireCount s := by
  have hwrites := ownWrites_of_perform h hk
  obtain ⟨-, ⟨rfl, rfl⟩ | ⟨b, rfl, hdisp⟩ | ⟨rfl, -⟩ | ⟨rfl, rfl⟩ | ⟨rfl, -, rfl⟩ | ⟨rfl, rfl⟩ | ⟨v, rfl, rfl⟩
    | ⟨rfl, -⟩⟩ := perform_cases h
  · exact fireCount_of_trace_eq (hwrites.trace nofun nofun nofun rfl)
  · exact fireCount_dispatch hdisp
  · exact absurd rfl hisr
  · exact fireCount_edge s
  · exact fireCount_of_trace_eq (hwrites.trace nofun nofun nofun rfl)
  · exact fireCount_lineDone s
  · exact fireCount_of_trace_eq (hwrites.trace nofun nofun nofun rfl)
  · exact absurd rfl hk

/-! ## At most one fire for one arm -/

/-- The fires that are still to come unless the watchdog is armed again: one for a countdown, one for an expiry. -/
def firesLeft (s : State) : Nat := s.wdtArmed.toNat + s.wdtPend.toNat

theorem firesLeft_eq_zero_iff {s : State} : firesLeft s = 0 ↔ s.wdtArmed = false ∧ s.wdtPend = false := by
  simp [firesLeft]

theorem firesLeft_le_one_iff {s : State} : firesLeft s ≤ 1 ↔ s.wdtArmed = false ∨ s.wdtPend = false := by
  cases ha : s.wdtArmed with
  | false => simp [firesLeft, ha, Bool.toNat_le]
  | true => simp [firesLeft, ha]

/-- A tick turns a countdown into an expiry at most (R105). -/
theorem firesLeft_tick_le (s : State) : firesLeft (tick s) ≤ firesLeft s := by
  obtain ⟨a, n, p, htick, ⟨ha, rfl, -, rfl⟩ | ⟨ha, -, rfl, -, rfl⟩ | ⟨ha, -, rfl, -, rfl⟩⟩ := tick_spec s <;>
    simp [htick, firesLeft, ha]

/-- The handler uses up the pending expiry (R107). -/
theorem firesLeft_wdtIsr {s : State} (hp : s.wdtPend = true) : firesLeft (wdtIsr s) + 1 = firesLeft s := by
  simp [wdtIsr_eq, firesLeft, hp]

/-- The fires so far and the fires left: no step but a rotation and a reset adds to them, and the first never fall. -/
theorem fireCount_bounds_of_perform {k : ScheduledStep} {s t : State} (hrot : dispatchesRotate s.cfg k = false)
    (hreset : k ≠ .reset) (h : perform k s = .next t) :
    fireCount s ≤ fireCount t ∧ fireCount t + firesLeft t ≤ fireCount s + firesLeft s := by
  by_cases hisr : k = .wdtIsr
  · subst hisr
    obtain ⟨hp, rfl⟩ : s.wdtPend = true ∧ t = wdtIsr s := by simpa using (perform_cases h).2
    have hleft := firesLeft_wdtIsr hp
    rw [fireCount_wdtIsr]
    omega
  · have hfire := fireCount_of_perform hreset hisr h
    have hleft : firesLeft t ≤ firesLeft s := by
      by_cases htick : k = .tick
      · subst htick
        obtain rfl : t = tick s := by simpa using (perform_cases h).2
        exact firesLeft_tick_le s
      · have hwrites := ownWrites_of_perform h hreset
        exact Nat.add_le_add (Bool.toNat_le_toNat (hwrites.arming hrot)) (Bool.toNat_le_toNat (hwrites.expires htick))
    omega

/-- The same over a run. -/
theorem fireCount_bounds_of_performAll {ks : List ScheduledStep} {s u : State}
    (hks : ∀ k ∈ ks, dispatchesRotate s.cfg k = false ∧ k ≠ .reset) (h : performAll ks s = .next u) :
    fireCount s ≤ fireCount u ∧ fireCount u + firesLeft u ≤ fireCount s + firesLeft s := by
  refine (performAll_invariant (P := fun v => v.cfg = s.cfg ∧ fireCount s ≤ fireCount v
    ∧ fireCount v + firesLeft v ≤ fireCount s + firesLeft s) ?_ ks s u hks ⟨rfl, le_rfl, le_rfl⟩ h).2
  rintro k v w ⟨hrot, hreset⟩ ⟨hcfg, hge, hle⟩ hstep
  obtain ⟨hge', hle'⟩ := fireCount_bounds_of_perform (hcfg ▸ hrot) hreset hstep
  exact ⟨(perform_cfg hstep).trans hcfg, hge.trans hge', hle'.trans hle⟩

/-- Settles O39: disarmed with nothing pending, no fire is left. -/
theorem cancelledWatchdogNeverFires : Obligations.CancelledWatchdogNeverFires := by
  intro ks s u harmed hpend hks h
  obtain ⟨hge, hle⟩ := fireCount_bounds_of_performAll hks h
  have hnone : firesLeft s = 0 := firesLeft_eq_zero_iff.2 ⟨harmed, hpend⟩
  omega

/-- Settles O40: a countdown and an expiry not being there together, at most one fire is left. -/
theorem atMostOneFirePerArm : Obligations.AtMostOneFirePerArm := by
  intro ks s u hnot hks h
  obtain ⟨-, hle⟩ := fireCount_bounds_of_performAll hks h
  have hone : firesLeft s ≤ 1 := firesLeft_le_one_iff.2 hnot
  omega

/-! ## A pending expiry is settled -/

/-- A tick never withdraws an expiry (R105). -/
theorem tick_wdtPend_of_pending {s : State} (h : s.wdtPend = true) : (tick s).wdtPend = true := by
  obtain ⟨a, n, p, htick, ⟨-, -, -, rfl⟩ | ⟨-, -, -, -, rfl⟩ | ⟨-, -, -, -, rfl⟩⟩ := tick_spec s <;> rw [htick]
  · exact h
  · exact h

/-- The steps that end a pending expiry: its handler, a known command, a reset (R108(b)). -/
theorem settles_of_pending {k : ScheduledStep} {s t : State} (h : perform k s = .next t) (hs : s.wdtPend = true)
    (ht : t.wdtPend = false) : k = .wdtIsr ∨ k = .reset ∨ dispatchesKnown s.cfg k = true := by
  by_contra hnone
  obtain ⟨hisr, hreset, hknown⟩ : k ≠ .wdtIsr ∧ k ≠ .reset ∧ dispatchesKnown s.cfg k = false := by
    simpa using hnone
  have hkept : t.wdtPend = true := by
    by_cases htick : k = .tick
    · subst htick
      obtain rfl : t = tick s := by simpa using (perform_cases h).2
      exact tick_wdtPend_of_pending hs
    · exact ((ownWrites_of_perform h hreset).expiry htick hisr hknown).trans hs
  exact absurd (hkept.symm.trans ht) nofun

/-- An execution keeps its configuration (spec/10_state.md R45). -/
theorem IsExecution.cfg_eq {c : Cfg} {e : Nat → State} {ks : Nat → ScheduledStep} (h : IsExecution c e ks) (n : Nat) :
    (e n).cfg = c := by
  obtain ⟨hstart, hstep⟩ := h
  induction n with
  | zero => rw [hstart, State.resetWith]
  | succ n ih => exact (perform_cfg (hstep n)).trans ih

/-- A flag that is up and later down is up to some moment and down at the next. -/
theorem exists_last_true {f : Nat → Bool} {n d : Nat} (hn : f n = true) (hd : f (n + d) = false) :
    ∃ l, n ≤ l ∧ (∀ j, n ≤ j → j ≤ l → f j = true) ∧ f (l + 1) = false := by
  induction d generalizing n with
  | zero => exact absurd (hn.symm.trans hd) nofun
  | succ d ih =>
    cases hnext : f (n + 1) with
    | false => exact ⟨n, le_rfl, fun j hj hjn => le_antisymm hj hjn ▸ hn, hnext⟩
    | true =>
      obtain ⟨l, hl, hup, hdown⟩ := ih hnext (by rwa [Nat.add_assoc, Nat.add_comm 1])
      refine ⟨l, by omega, fun j hj hjl => ?_, hdown⟩
      obtain rfl | hlt := eq_or_lt_of_le hj
      · exact hn
      · exact hup j hlt hjl

/-- Settles O42: fairness gives a later state without the expiry, and the step into the first such state settles it. -/
theorem pendingExpiryIsSettled : Obligations.PendingExpiryIsSettled := by
  intro c e ks hexec hfair n hpend
  obtain ⟨⟨m, hnm, hm⟩, -⟩ := hfair n
  obtain ⟨d, rfl⟩ := Nat.exists_eq_add_of_le hnm
  obtain ⟨l, hnl, hup, hdown⟩ := exists_last_true (f := fun j => (e j).wdtPend) hpend hm
  exact ⟨l, hnl, hup, hdown, hexec.cfg_eq l ▸ settles_of_pending (hexec.2 l) (hup l hnl le_rfl) hdown⟩

end Sys2Proof.Machine
end

section
/-! The capture unit (spec/42_capture_period.md R111 to R118): an edge is captured with the time base as its stamp or
lost, only an edge moves the stamps, and so the period of two captured edges is the number of ticks between them. -/

namespace Sys2Proof.Machine

/-! ## The edge step -/

/-- The Beacon Detector's step is enabled in every state (R114). -/
theorem perform_edge {s : State} (hwf : s.cfg.wf = true) : perform .edge s = .next (edge s) := if_pos hwf

/-- There is no pending latch: an edge with the capture off is lost (R114). -/
theorem edge_of_capture_off {s : State} (h : s.capIe = false) : edge s = s := by
  simp [edge, h]

/-- Settles O21: the step is performed, and an edge with the capture off is lost. -/
theorem edgeIgnoredWhenDisabled : Obligations.EdgeIgnoredWhenDisabled := by
  intro s hwf hoff
  rw [perform_edge hwf, edge_of_capture_off hoff]

/-- The three stamps of a captured edge are the capture's, whatever the estimator makes of the sample (R115). -/
theorem edge_stamps {s : State} (hon : s.capIe = true) :
    (edge s).lastEdge = s.thisEdge ∧ (edge s).thisEdge = s.capTimer
      ∧ (edge s).period = wrapDiff s.capTimer s.thisEdge := by
  obtain ⟨hoff, -⟩ | ⟨-, -, he⟩ | ⟨-, -, hz, a, -, rfl, ⟨-, he⟩ | ⟨-, -, he⟩ | ⟨-, -, he⟩⟩ := edge_spec s
  · exact absurd (hon.symm.trans hoff) nofun
  · exact he ▸ ⟨rfl, rfl, rfl⟩
  · exact he ▸ ⟨rfl, rfl, rfl⟩
  · rw [he, converge_eq]
    exact ⟨rfl, rfl, rfl⟩
  · exact he ▸ ⟨rfl, rfl, rfl⟩

/-- An edge does not touch the time base (R112). -/
theorem edge_capTimer (s : State) : (edge s).capTimer = s.capTimer := ((ownWrites_edge s).counters nofun).2

/-! ## The ticks between two edges -/

/-- A run of `n` ticks is `n` iterations of `tick`. -/
theorem eq_tickTimes_of_performAll {n : Nat} {s u : State}
    (h : performAll (List.replicate n .tick) s = .next u) : u = tickTimes n s := by
  induction n generalizing s with
  | zero =>
    cases h
    rfl
  | succ n ih =>
    obtain ⟨t, hstep, hrest⟩ := performAll_cons h
    obtain rfl : t = tick s := by simpa using (perform_cases hstep).2
    exact ih hrest

/-- Time passing leaves the last stamp where it is (R114). -/
theorem tickTimes_thisEdge (n : Nat) (s : State) : (tickTimes n s).thisEdge = s.thisEdge := by
  induction n generalizing s with
  | zero => rfl
  | succ n ih => exact (ih (tick s)).trans ((ownWrites_tick s).captureSample nofun).2.1

/-- Time passing leaves the capture enable where it is (R114). -/
theorem tickTimes_capIe (n : Nat) (s : State) : (tickTimes n s).capIe = s.capIe := by
  induction n generalizing s with
  | zero => rfl
  | succ n ih => exact (ih (tick s)).trans ((ownWrites_tick s).detector nofun nofun rfl).1

/-- A time base that has moved by `n` since the stamp is `n` past it, modulo 2^32 (spec/00_scope.md R9). -/
theorem wrapDiff_add_ofNat (a : Word32) (n : Nat) : wrapDiff (a + BitVec.ofNat 32 n) a = BitVec.ofNat 32 n :=
  add_sub_cancel_left a _

/-- Settles O43: the first edge's stamp is the time base, which the ticks move by `n` while they keep the stamp and the
capture enable, so that the second edge measures `n`. -/
theorem periodOfTwoEdges : Obligations.PeriodOfTwoEdges := by
  intro n s t u hon hfirst hon_next hrun
  obtain rfl : t = edge s := by simpa using (perform_cases hfirst).2
  obtain ⟨v, hticks, hlast⟩ := performAll_append hrun
  obtain rfl := eq_tickTimes_of_performAll hticks
  obtain ⟨w, hsecond, hend⟩ := performAll_cons hlast
  obtain rfl : w = edge (tickTimes n (edge s)) := by simpa using (perform_cases hsecond).2
  cases hend
  have hon_late : (tickTimes n (edge s)).capIe = true := (tickTimes_capIe n _).trans hon_next
  have hperiod : (edge (tickTimes n (edge s))).period = BitVec.ofNat 32 n :=
    calc (edge (tickTimes n (edge s))).period
        = wrapDiff (tickTimes n (edge s)).capTimer (tickTimes n (edge s)).thisEdge := (edge_stamps hon_late).2.2
      _ = wrapDiff (s.capTimer + BitVec.ofNat 32 n) s.capTimer := by
        rw [tickTimes_capTimer, edge_capTimer, tickTimes_thisEdge, (edge_stamps hon).2.1]
      _ = BitVec.ofNat 32 n := wrapDiff_add_ofNat _ n
  rw [hperiod, BitVec.toNat_ofNat]

end Sys2Proof.Machine
end

section
/-! The frequency estimator (spec/43_frequency_convergence.md R119 to R136): the tests as comparisons of numbers, the
edge as one equation for each outcome of the tests, the bound on the running sum, and the runs that converge and that
do not. -/

namespace Sys2Proof.Machine

/-! ## The tests as comparisons -/

theorem isGlitch_iff {c : Cfg} {p : Word32} : isGlitch c p = true ↔ p.toNat = 0 ∨ c.hzCeiling < periodHz c p := by
  simp [isGlitch, ← BitVec.toNat_inj]

theorem not_isGlitch_iff {c : Cfg} {p : Word32} : isGlitch c p = false ↔ p ≠ 0 ∧ periodHz c p ≤ c.hzCeiling := by
  simp [isGlitch]

theorem inBand_iff {c : Cfg} {hz : Nat} : inBand c hz = true ↔ loHz c ≤ hz ∧ hz ≤ hiHz c := by simp [inBand]

theorem not_inBand_iff {c : Cfg} {hz : Nat} : inBand c hz = false ↔ hz < loHz c ∨ hiHz c < hz := by
  rw [← Bool.not_eq_true, inBand_iff]
  omega

/-- A frequency is a quotient of the clock rate, so `INSTANT_HZ` holds it (spec/00_scope.md R5). -/
theorem periodHz_lt {c : Cfg} (hwf : c.wf = true) (p : Word32) : periodHz c p < 2 ^ 32 :=
  (Nat.div_le_self _ _).trans_lt (wf_clock hwf).2.2

theorem wrapDiff_ne_zero {a b : Word32} (h : a ≠ b) : wrapDiff a b ≠ 0 := sub_ne_zero.2 h

/-- The band lies below the ceiling, so no sample in it is a glitch (spec/00_scope.md R5). -/
theorem not_isGlitch_of_inBand {c : Cfg} (hwf : c.wf = true) {p : Word32} (hp : p ≠ 0)
    (hband : inBand c (periodHz c p) = true) : isGlitch c p = false :=
  not_isGlitch_iff.2 ⟨hp, (inBand_iff.1 hband).2.trans (wf_ceiling hwf).1⟩

/-! ## An accepted sample -/

/-- The frequency that an edge in state `s` measures (R122). -/
def edgeHz (s : State) : Nat := periodHz s.cfg (wrapDiff s.capTimer s.thisEdge)

/-- The state with the edge captured and its sample accumulated, before the test (R124). -/
def acceptSample (s : State) : State := accumulate (edgeHz s) (captureEdge s)

/-- The edge discards its capture (R121, R123). -/
def edgeIsGlitch (s : State) : Bool := isGlitch s.cfg (wrapDiff s.capTimer s.thisEdge)

theorem acceptSample_instantHz_toNat {s : State} (hwf : s.cfg.wf = true) :
    (acceptSample s).instantHz.toNat = edgeHz s :=
  BitVec.toNat_ofNat .. |>.trans (Nat.mod_eq_of_lt (periodHz_lt hwf _))

theorem acceptSample_runningSumHz_toNat (s : State) :
    (acceptSample s).runningSumHz.toNat = (s.runningSumHz.toNat + edgeHz s) % 2 ^ 32 := by
  simp [acceptSample, BitVec.toNat_add]

theorem acceptSample_sampleCount_toNat (s : State) :
    (acceptSample s).sampleCount.toNat = (s.sampleCount.toNat + 1) % 2 ^ 32 := by
  simp [acceptSample, BitVec.toNat_add]

/-! ## The outcomes of an edge -/

theorem edge_of_glitch {s : State} (hon : s.capIe = true) (hglitch : edgeIsGlitch s = true) :
    edge s = captureEdge s := by
  rw [edge, if_pos hon]
  exact if_pos hglitch

section
variable {s : State} (hon : s.capIe = true) (hacc : edgeIsGlitch s = false)
include hon hacc

theorem edge_of_accepted : edge s = testSample (edgeHz s) (acceptSample s) := by
  rw [edge, if_pos hon]
  exact if_neg (Bool.eq_false_iff.1 hacc)

/-- A sample within the warm-up is not tested (R125). -/
theorem edge_of_untested (hcount : (s.sampleCount.toNat + 1) % 2 ^ 32 ≤ s.cfg.warmup) : edge s = acceptSample s := by
  rw [← acceptSample_sampleCount_toNat] at hcount
  rw [edge_of_accepted hon hacc]
  exact if_neg fun htest => absurd (of_decide_eq_true htest) hcount.not_gt

variable (hcount : s.cfg.warmup < (s.sampleCount.toNat + 1) % 2 ^ 32)
include hcount

theorem edge_of_tested :
    edge s = if inBand s.cfg (edgeHz s) then converge (acceptSample s) else publishAndContinue (acceptSample s) := by
  rw [← acceptSample_sampleCount_toNat] at hcount
  rw [edge_of_accepted hon hacc]
  exact if_pos (decide_eq_true hcount)

/-- A tested sample in the band converges (R126, R129). -/
theorem edge_of_inBand (hband : inBand s.cfg (edgeHz s) = true) : edge s = converge (acceptSample s) :=
  (edge_of_tested hon hacc hcount).trans (if_pos hband)

/-- A tested sample out of the band is published (R126, R130). -/
theorem edge_of_outOfBand (hband : inBand s.cfg (edgeHz s) = false) : edge s = publishAndContinue (acceptSample s) :=
  (edge_of_tested hon hacc hcount).trans (if_neg (Bool.eq_false_iff.1 hband))

end

/-! ## The obligations about one edge and about the self-event -/

/-- Settles O22: a glitch ends the edge after its capture. -/
theorem glitchMovesOnlyTimeStamps : Obligations.GlitchMovesOnlyTimeStamps := by
  intro s hwf hon hglitch
  refine ⟨edge s, perform_edge hwf, ?_⟩
  rw [edge_of_glitch hon (isGlitch_iff.2 hglitch)]
  refine ⟨?_, rfl⟩
  rw [captureEdge_period, wrapDiff]
  bv_omega

/-- Settles O23: an accepted sample whose count is not above the warm-up ends the edge after its accumulation. -/
theorem warmupSampleAccumulates : Obligations.WarmupSampleAccumulates := by
  rintro s hz hwf hon hne rfl hceiling hcount
  refine ⟨edge s, perform_edge hwf, ?_⟩
  rw [edge_of_untested hon (not_isGlitch_iff.2 ⟨wrapDiff_ne_zero hne, hceiling⟩) hcount]
  exact ⟨acceptSample_instantHz_toNat hwf, acceptSample_runningSumHz_toNat s, acceptSample_sampleCount_toNat s, rfl⟩

/-- Settles O24: a sample in the band is no glitch, so above the warm-up the edge converges. -/
theorem inBandSampleConverges : Obligations.InBandSampleConverges := by
  rintro s hz hwf hon hne rfl hcount hlo hhi
  have hband : inBand s.cfg (edgeHz s) = true := inBand_iff.2 ⟨hlo, hhi⟩
  refine ⟨edge s, perform_edge hwf, ?_⟩
  rw [edge_of_inBand hon (not_isGlitch_of_inBand hwf (wrapDiff_ne_zero hne) hband) hcount hband, converge_eq]
  exact ⟨acceptSample_instantHz_toNat hwf, acceptSample_runningSumHz_toNat s, acceptSample_sampleCount_toNat s, rfl⟩

/-- The published average is the quotient of the new sum by the new count (R130). -/
theorem publish_acceptSample_averagedHz_toNat (s : State) :
    (publishAndContinue (acceptSample s)).averagedHz.toNat
      = ((s.runningSumHz.toNat + edgeHz s) % 2 ^ 32) / ((s.sampleCount.toNat + 1) % 2 ^ 32) := by
  rw [publishAndContinue_eq, ← acceptSample_runningSumHz_toNat, ← acceptSample_sampleCount_toNat]
  exact (BitVec.toNat_ofNat ..).trans (Nat.mod_eq_of_lt ((Nat.div_le_self _ _).trans_lt (BitVec.isLt _)))

/-- Settles O25: an accepted sample out of the band and above the warm-up is published. -/
theorem outOfBandSamplePublishes : Obligations.OutOfBandSamplePublishes := by
  rintro s hz hwf hon hne rfl hceiling hcount hout
  refine ⟨edge s, perform_edge hwf, ?_⟩
  rw [edge_of_outOfBand hon (not_isGlitch_iff.2 ⟨wrapDiff_ne_zero hne, hceiling⟩) hcount (not_inBand_iff.2 hout)]
  exact ⟨acceptSample_instantHz_toNat hwf, acceptSample_sampleCount_toNat s,
    publish_acceptSample_averagedHz_toNat s, rfl⟩

/-- The service loop's step is enabled by the self-event (R133). -/
theorem perform_handleContinue {s : State} (hwf : s.cfg.wf = true) (hpend : s.contPend = true) :
    perform .handleContinue s = .next (handleContinue s) :=
  (if_pos hwf).trans (if_pos hpend)

/-- Settles O26: the handler is refused without the self-event, and with it goes by `MOTION`. -/
theorem continueHandlerResult : Obligations.ContinueHandlerResult := by
  intro s hwf
  refine ⟨perform_handleContinue_refused hwf, fun hpend hm => ?_,
    fun hpend hm => ⟨_, perform_handleContinue hwf hpend, ?_⟩⟩
  · rw [perform_handleContinue hwf hpend]
    exact congrArg _ (if_neg hm)
  · obtain ⟨hnot, -⟩ | ⟨-, m, c, hc, hpair⟩ := handleContinue_spec s
    · exact absurd hm hnot
    · rw [hc, ← (rotation_lines s.cfg.beaconDir).2.2]
      exact ⟨hpair hwf, rfl⟩

/-! ## The bound on the running sum (R124, R127) -/

/-- A new window, and one that a test has just closed, has the bound. -/
theorem sumBound_of_sum_eq_zero {s : State} (h : s.runningSumHz = 0) : SumBound s := by
  have hsum : s.runningSumHz.toNat = 0 := by simp [h]
  exact ⟨fun _ _ => hsum.trans_le (Nat.zero_le _), fun _ _ => h, hsum.trans_le (Nat.zero_le _)⟩

/-- With the capture off only the total is asked for. -/
theorem sumBound_of_capture_off {s : State} (hoff : s.capIe = false)
    (htotal : s.runningSumHz.toNat ≤ (s.cfg.warmup + 1) * s.cfg.hzCeiling) : SumBound s :=
  ⟨fun hon => absurd (hon.symm.trans hoff) nofun, fun hon => absurd (hon.symm.trans hoff) nofun, htotal⟩

/-- The bound is kept by a step that writes neither the sum nor the count nor the capture enable. -/
theorem sumBound_of_ownWrites {k : ScheduledStep} {s t : State} (h : SumBound s) (hcfg : t.cfg = s.cfg)
    (hwrites : OwnWrites k s t) (hedge : k ≠ .edge) (hcont : k ≠ .handleContinue) (hdisp : ∀ b, k ≠ .dispatch b) :
    SumBound t := by
  have hknown : dispatchesKnown s.cfg k = false := by
    cases k with
    | dispatch b => exact absurd rfl (hdisp b)
    | _ => rfl
  obtain ⟨hsum, hcount⟩ := hwrites.sumAndCount hedge hcont (hdisp _)
  obtain ⟨hcap, -⟩ := hwrites.detector hedge hcont hknown
  exact ⟨by rw [hcfg, hsum, hcount, hcap]; exact h.warmup, by rw [hcfg, hsum, hcount, hcap]; exact h.tested,
    by rw [hcfg, hsum]; exact h.total⟩

/-- A known command turns the capture off and leaves the sum, but for the alignment, which opens a new window. -/
theorem sumBound_dispatch {b : Byte} {s t : State} (hwf : s.cfg.wf = true) (h : SumBound s)
    (hdisp : dispatch b s = .next t) : SumBound t := by
  obtain ⟨i, -, hexec⟩ | ⟨b', -, rfl⟩ := dispatch_cases hdisp
  · by_cases hi : i = .nocmd
    · subst hi
      cases hexec
      exact h
    by_cases halign : i = .alignToBeacon
    · subst halign
      cases hexec
      obtain ⟨m, c, hcmd, -⟩ := dispatchKnown_align_spec s.cfg.opAlignToBeacon s
      rw [hcmd]
      exact sumBound_of_sum_eq_zero rfl
    · have hwrites := commandWrites_of_exec hi hexec
      have hbyte : encode s.cfg i ≠ s.cfg.opAlignToBeacon :=
        fun he => halign (Laws.encode_injective (j := .alignToBeacon) hwf he)
      refine sumBound_of_capture_off ((commandLeaves_of_exec hi hexec).captureOff halign) ?_
      rw [(hwrites.sumAndCount hbyte).1, hwrites.cfg]
      exact h.total
  · exact { h with }

section
variable {s : State} (h : SumBound s) (hon : s.capIe = true) (hacc : edgeIsGlitch s = false)
include h hon hacc

/-- An accepted sample adds at most `HZ_CEILING`, and to nothing once the window has been tested. -/
theorem SumBound.add_edgeHz_le :
    s.runningSumHz.toNat + edgeHz s ≤ (min s.sampleCount.toNat s.cfg.warmup + 1) * s.cfg.hzCeiling := by
  have hhz : edgeHz s ≤ s.cfg.hzCeiling := (not_isGlitch_iff.1 hacc).2
  rw [Nat.add_one_mul]
  obtain hle | hlt := le_or_gt s.sampleCount.toNat s.cfg.warmup
  · rw [min_eq_left hle]
    exact Nat.add_le_add (h.warmup hon hle) hhz
  · rw [h.tested hon hlt]
    simpa using hhz.trans (Nat.le_add_left ..)

theorem SumBound.add_edgeHz_le_total :
    s.runningSumHz.toNat + edgeHz s ≤ (s.cfg.warmup + 1) * s.cfg.hzCeiling :=
  (h.add_edgeHz_le hon hacc).trans (Nat.mul_le_mul_right _ (Nat.succ_le_succ (min_le_right _ _)))

/-- The addition does not wrap, since the configuration leaves room for the bound (spec/00_scope.md R5). -/
theorem SumBound.add_edgeHz_lt (hwf : s.cfg.wf = true) : s.runningSumHz.toNat + edgeHz s < 2 ^ 32 :=
  (h.add_edgeHz_le_total hon hacc).trans_lt (wf_warmup hwf).2

theorem SumBound.acceptSample_sum (hwf : s.cfg.wf = true) :
    (acceptSample s).runningSumHz.toNat = s.runningSumHz.toNat + edgeHz s :=
  (acceptSample_runningSumHz_toNat s).trans (Nat.mod_eq_of_lt (h.add_edgeHz_lt hon hacc hwf))

end

/-- An edge keeps the bound while the count does not wrap: within the warm-up the sum grows with the count, a
convergence turns the capture off, a publish zeroes the sum. -/
theorem sumBound_edge {s : State} (hwf : s.cfg.wf = true) (h : SumBound s) (hroom : s.sampleCount.toNat + 1 < 2 ^ 32) :
    SumBound (edge s) := by
  cases hon : s.capIe with
  | false => rwa [edge_of_capture_off hon]
  | true =>
    cases hacc : edgeIsGlitch s with
    | true =>
      rw [edge_of_glitch hon hacc]
      exact { h with }
    | false =>
      have hcount : (s.sampleCount.toNat + 1) % 2 ^ 32 = s.sampleCount.toNat + 1 := Nat.mod_eq_of_lt hroom
      have htotal := h.add_edgeHz_le_total hon hacc
      have hsum := h.acceptSample_sum hon hacc hwf
      rw [← hsum] at htotal
      obtain hle | hlt := le_or_gt ((s.sampleCount.toNat + 1) % 2 ^ 32) s.cfg.warmup
      · rw [edge_of_untested hon hacc hle]
        rw [hcount] at hle
        have hsample := (acceptSample_sampleCount_toNat s).trans hcount
        refine ⟨fun _ _ => ?_, fun _ hgt => absurd (hsample ▸ hgt) hle.not_gt, htotal⟩
        have hadd := h.add_edgeHz_le hon hacc
        rw [min_eq_left (Nat.le_of_succ_le hle)] at hadd
        rwa [hsum, hsample]
      · rw [edge_of_tested hon hacc hlt]
        split_ifs
        · rw [converge_eq]
          exact sumBound_of_capture_off rfl htotal
        · exact sumBound_of_sum_eq_zero rfl

/-- A continued alignment opens a new window; a dropped event changes nothing else. -/
theorem sumBound_handleContinue {s : State} (h : SumBound s) : SumBound (handleContinue s) := by
  obtain ⟨-, hc⟩ | ⟨-, m, c, hc, -⟩ := handleContinue_spec s
  · rw [hc]
    exact { h with }
  · rw [hc]
    exact sumBound_of_sum_eq_zero rfl

theorem sumBound_perform {k : ScheduledStep} {s t : State} (h : SumBound s) (hroom : s.sampleCount.toNat + 1 < 2 ^ 32)
    (hstep : perform k s = .next t) : SumBound t := by
  have hcfg := perform_cfg hstep
  obtain ⟨hwf, ⟨rfl, rfl⟩ | ⟨b, rfl, hdisp⟩ | ⟨rfl, -, rfl⟩ | ⟨rfl, rfl⟩ | ⟨rfl, -, rfl⟩ | ⟨rfl, rfl⟩ | ⟨v, rfl, rfl⟩
    | ⟨rfl, rfl⟩⟩ := perform_cases hstep
  · exact sumBound_of_ownWrites h hcfg (ownWrites_tick s) nofun nofun nofun
  · exact sumBound_dispatch hwf h hdisp
  · exact sumBound_of_ownWrites h hcfg (ownWrites_wdtIsr s) nofun nofun nofun
  · exact sumBound_edge hwf h hroom
  · exact sumBound_handleContinue h
  · exact sumBound_of_ownWrites h hcfg (ownWrites_lineDone s) nofun nofun nofun
  · exact sumBound_of_ownWrites h hcfg (ownWrites_adSample v s) nofun nofun nofun
  · exact sumBound_of_sum_eq_zero rfl

/-- Settles O44: every step keeps the bound, and the bound leaves room for an accepted sample. -/
theorem runningSumNeverWraps : Obligations.RunningSumNeverWraps := fun _ _ _ h hroom hstep =>
  ⟨sumBound_perform h hroom hstep, fun _ hon hacc => h.add_edgeHz_lt hon hacc (perform_cases hstep).1⟩

/-! ## Convergence (R135) -/

/-- The detector is off in `t`, and its last stamp, its last frequency and the trace are those of `s`. -/
structure DetectorRests (s t : State) : Prop where
  captureOff : t.capIe = false
  detState : t.detState = s.detState
  thisEdge : t.thisEdge = s.thisEdge
  instantHz : t.instantHz = s.instantHz
  trace : t.trace = s.trace

/-- With the capture off, time passes and edges are lost. -/
theorem detectorRests_perform {k : ScheduledStep} {s t u : State} (hk : k = .tick ∨ k = .edge)
    (h : DetectorRests s t) (hstep : perform k t = .next u) : DetectorRests s u := by
  obtain rfl | rfl := hk
  · obtain rfl : u = tick t := by simpa using (perform_cases hstep).2
    obtain ⟨a, n, p, htick, -⟩ := tick_spec t
    rw [htick]
    exact { h with }
  · obtain rfl : u = edge t := by simpa using (perform_cases hstep).2
    rwa [edge_of_capture_off h.captureOff]

/-- Settles O45: the first edge converges and turns the capture off, so that the detector rests from then on. -/
theorem firstInBandSampleStopsOnce : Obligations.FirstInBandSampleStopsOnce := by
  intro ks s u hwf hon hwarm hroom hne hband hks hrun
  obtain ⟨t, hfirst, hrest⟩ := performAll_cons hrun
  obtain rfl : t = edge s := by simpa using (perform_cases hfirst).2
  have hcount : s.cfg.warmup < (s.sampleCount.toNat + 1) % 2 ^ 32 := by
    rw [Nat.mod_eq_of_lt hroom]
    exact Nat.lt_succ_of_le hwarm
  have hacc : edgeIsGlitch s = false := not_isGlitch_of_inBand hwf (wrapDiff_ne_zero hne) hband
  have hedge : edge s = converge (acceptSample s) := edge_of_inBand hon hacc hcount hband
  rw [hedge, converge_eq] at hrest
  obtain ⟨hoff, hdet, hstamp, hhz, htrace⟩ := performAll_invariant (fun _ _ _ => detectorRests_perform) ks _ u hks
    ⟨rfl, rfl, rfl, rfl, rfl⟩ hrest
  exact ⟨htrace, hoff, hdet, hstamp, (congrArg BitVec.toNat hhz).trans (acceptSample_instantHz_toNat hwf)⟩

/-! ## Non-convergence (R136) -/

/-- The alignment of `s` goes on in `t`: no stop, and the capture as it was or on. -/
structure AlignmentGoesOn (s t : State) : Prop where
  stops : stopCount t = stopCount s
  motion : t.motion = .converging
  capture : s.capIe = true → t.capIe = true

theorem AlignmentGoesOn.trans {s t u : State} (hst : AlignmentGoesOn s t) (htu : AlignmentGoesOn t u) :
    AlignmentGoesOn s u :=
  ⟨htu.stops.trans hst.stops, htu.motion, fun hon => htu.capture (hst.capture hon)⟩

/-- A step that emits nothing and writes neither `MOTION` nor the capture enable lets the alignment go on. -/
theorem alignmentGoesOn_of_kept {s t : State} (hm : s.motion = .converging) (htrace : t.trace = s.trace)
    (hmotion : t.motion = s.motion) (hcap : t.capIe = s.capIe) : AlignmentGoesOn s t :=
  ⟨by rw [stopCount, htrace, stopCount], hmotion.trans hm, hcap.trans⟩

/-- An edge that does not converge publishes at most, which is no stop (R130). -/
theorem alignmentGoesOn_edge {s : State} (hm : s.motion = .converging)
    (hout : s.capIe = true → edgeIsGlitch s = false → inBand s.cfg (edgeHz s) = false) :
    AlignmentGoesOn s (edge s) := by
  obtain ⟨-, he⟩ | ⟨-, -, he⟩ | ⟨hon, hacc, hz, a, rfl, rfl, ⟨-, he⟩ | ⟨-, hband, -⟩ | ⟨-, -, he⟩⟩ := edge_spec s
  · rw [he]
    exact alignmentGoesOn_of_kept hm rfl rfl rfl
  · rw [he]
    exact alignmentGoesOn_of_kept hm rfl rfl rfl
  · rw [he]
    exact alignmentGoesOn_of_kept hm rfl rfl rfl
  · exact absurd (hband.symm.trans (hout hon hacc)) nofun
  · rw [he, publishAndContinue_eq]
    exact ⟨by simp [stopCount], hm, id⟩

/-- The self-event rotates and re-arms, or is dropped: neither is a stop (R133). -/
theorem alignmentGoesOn_handleContinue {s : State} (hm : s.motion = .converging) :
    AlignmentGoesOn s (handleContinue s) := by
  obtain ⟨hnot, -⟩ | ⟨-, m, c, hc, -⟩ := handleContinue_spec s
  · exact absurd hm hnot
  · rw [hc]
    exact ⟨rfl, hm, fun _ => rfl⟩

/-- The first step of an out-of-band run lets the alignment go on. -/
theorem alignmentGoesOn_perform {k : ScheduledStep} {ks : List ScheduledStep} {s t : State}
    (hm : s.motion = .converging) (hrun : OutOfBandRun (k :: ks) s) (hstep : perform k s = .next t) :
    AlignmentGoesOn s t := by
  obtain ⟨hallowed, -⟩ := hrun
  obtain ⟨-, ⟨rfl, rfl⟩ | ⟨b, rfl, -⟩ | ⟨rfl, -⟩ | ⟨rfl, rfl⟩ | ⟨rfl, -, rfl⟩ | ⟨rfl, -⟩ | ⟨v, rfl, rfl⟩ | ⟨rfl, -⟩⟩ :=
    perform_cases hstep
  · obtain ⟨a, n, p, htick, -⟩ := tick_spec s
    rw [htick]
    exact alignmentGoesOn_of_kept hm rfl rfl rfl
  · exact hallowed.elim
  · exact hallowed.elim
  · exact alignmentGoesOn_edge hm hallowed
  · exact alignmentGoesOn_handleContinue hm
  · exact hallowed.elim
  · obtain ⟨-, ha⟩ | ⟨p, m, c, -, ha, -⟩ := adSample_spec v s <;> rw [ha] <;>
      exact alignmentGoesOn_of_kept hm rfl rfl rfl
  · exact hallowed.elim

theorem alignmentGoesOn_performAll {ks : List ScheduledStep} {s u : State} (hm : s.motion = .converging)
    (hrun : OutOfBandRun ks s) (h : performAll ks s = .next u) : AlignmentGoesOn s u := by
  induction ks generalizing s with
  | nil =>
    cases h
    exact alignmentGoesOn_of_kept hm rfl rfl rfl
  | cons k ks ih =>
    obtain ⟨t, hstep, hrest⟩ := performAll_cons h
    have hfirst := alignmentGoesOn_perform hm hrun hstep
    exact hfirst.trans (ih hfirst.motion (hrun.2 t hstep) hrest)

/-- Settles O46: the alignment goes on through every step of the run. -/
theorem outOfBandRunNeverStops : Obligations.OutOfBandRunNeverStops := by
  intro ks s u hm hrun h
  obtain ⟨hstops, hmotion, hcap⟩ := alignmentGoesOn_performAll hm hrun h
  exact ⟨hstops, hmotion, hcap⟩

end Sys2Proof.Machine
end

section
/-! The PWM Generator (spec/44_pwm_actuation.md R138 to R150, R156, R159): what each class of duty programs, and the
waveform. A period is one countdown of the counter, and a window of any phase is the rest of one countdown and the
beginning of the next, so the waveform of a countdown settles both. -/

namespace Sys2Proof.Machine

/-! ## What a duty programs (R138 to R140) -/

/-- The three classes of duties. -/
theorem percent_cases (e : Percent) : e = 0 ∨ e = 100 ∨ 1 ≤ e.val ∧ e.val ≤ 99 := by
  obtain h | h | h : e.val = 0 ∨ e.val = 100 ∨ 1 ≤ e.val ∧ e.val ≤ 99 := by omega
  · exact .inl (Fin.ext h)
  · exact .inr (.inl (Fin.ext h))
  · exact .inr (.inr h)

/-- `set_duty(0)` (R138). -/
theorem setDuty_zero (s : State) : setDuty 0 s = { s with pwmMode := .forcedLow } := rfl

/-- `set_duty(100)` (R139). -/
theorem setDuty_hundred (s : State) : setDuty 100 s = { s with pwmMode := .forcedHigh } := rfl

section
variable {e : Percent} (hpos : 1 ≤ e.val) (hle : e.val ≤ 99)
include hpos hle

/-- `set_duty(e)` between the boundaries (R140). -/
theorem setDuty_between (s : State) : setDuty e s = { s with
    pwmCmp := BitVec.ofNat 16 (compareThreshold s.cfg.pwmPeriod e.val), pwmMode := .compare } := by
  have h0 : e.val ≠ 0 := by omega
  have h100 : e.val ≠ 100 := by omega
  rw [setDuty, if_neg h0, if_neg h100]

/-- The programmed threshold fits its register (R147). -/
theorem setDuty_between_spec {s : State} (hwf : s.cfg.wf = true) : ∃ c : Word16,
    setDuty e s = { s with pwmMode := .compare, pwmCmp := c }
      ∧ c.toNat = s.cfg.pwmPeriod - e.val * s.cfg.pwmPeriod / 100 := by
  have hfits : compareThreshold s.cfg.pwmPeriod e.val < 2 ^ 16 := (Nat.sub_le _ _).trans_lt (wf_period hwf).2
  exact ⟨_, setDuty_between hpos hle s, Nat.mod_eq_of_lt hfits⟩

end

/-- Settles O31: each class of duties writes values that do not read the state. -/
theorem setDutyIsIdempotent : Obligations.SetDutyIsIdempotent := by
  intro e s
  obtain rfl | rfl | ⟨hpos, hle⟩ := percent_cases e
  · rw [setDuty_zero, setDuty_zero]
  · rw [setDuty_hundred, setDuty_hundred]
  · rw [setDuty_between hpos hle, setDuty_between hpos hle]

/-- Settles O32: `stop` as one record update. -/
theorem stopIsTheSafeState : Obligations.StopIsTheSafeState := by
  intro cause again s
  rw [stop_eq cause s, stop_eq again]
  exact ⟨rfl, rfl, BitVec.getLsbD_zero, BitVec.getLsbD_zero, rfl⟩

/-- Settles O28: the A/D step by its two cases. -/
theorem scalingInputResult : Obligations.ScalingInputResult := by
  intro s v hwf
  have hstep : perform (.adSample v) s = .next (adSample v s) := if_pos hwf
  rw [hstep]
  obtain ⟨habove, ha⟩ | ⟨p, m, c, hp, ha, hpair⟩ := adSample_spec v s
  · exact ⟨fun _ => congrArg _ ha, fun hv => absurd hv habove.not_ge⟩
  · have hle : v.toNat ≤ 100 := hp ▸ Nat.le_of_lt_succ p.isLt
    exact ⟨fun habove => absurd habove hle.not_gt, fun _ => ⟨_, congrArg _ ha, hp, hp ▸ hpair hwf, rfl⟩⟩

/-! ## The PWM under the clock (R142, R159) -/

@[simp] theorem tick_pwmMode (s : State) : (tick s).pwmMode = s.pwmMode :=
  (ownWrites_tick s).pwmMode nofun nofun nofun nofun nofun rfl

@[simp] theorem tick_pwmCmp (s : State) : (tick s).pwmCmp = s.pwmCmp := (ownWrites_tick s).pwmThreshold nofun nofun rfl

/-- What one tick keeps, any number of ticks keep. -/
theorem tickTimes_kept {α : Type} {f : State → α} (hf : ∀ s, f (tick s) = f s) (n : Nat) (s : State) :
    f (tickTimes n s) = f s := by
  induction n generalizing s with
  | zero => rfl
  | succ n ih => exact (ih (tick s)).trans (hf s)

@[simp] theorem tickTimes_cfg (n : Nat) (s : State) : (tickTimes n s).cfg = s.cfg := tickTimes_kept tick_cfg n s

@[simp] theorem tickTimes_pwmMode (n : Nat) (s : State) : (tickTimes n s).pwmMode = s.pwmMode :=
  tickTimes_kept tick_pwmMode n s

@[simp] theorem tickTimes_pwmCmp (n : Nat) (s : State) : (tickTimes n s).pwmCmp = s.pwmCmp :=
  tickTimes_kept tick_pwmCmp n s

theorem tickTimes_add (m n : Nat) (s : State) : tickTimes (m + n) s = tickTimes n (tickTimes m s) := by
  induction m generalizing s with
  | zero => rw [Nat.zero_add, tickTimes]
  | succ m ih => rw [Nat.succ_add, tickTimes, ih, tickTimes]

/-- Down to 0 the counter is counted down. -/
theorem tickTimes_pwmCnt_of_le {n : Nat} {s : State} (hn : n ≤ s.pwmCnt.toNat) :
    (tickTimes n s).pwmCnt.toNat = s.pwmCnt.toNat - n := by
  induction n generalizing s with
  | zero => rfl
  | succ n ih =>
    have hne : s.pwmCnt ≠ 0 := by
      rintro h0
      simp [h0] at hn
    have htick : (tick s).pwmCnt.toNat = s.pwmCnt.toNat - 1 := by
      rw [tick_pwmCnt, if_neg hne]
      bv_omega
    rw [tickTimes, ih (by omega), htick]
    omega

/-- One tick after 0 the next period begins. -/
theorem tickTimes_pwmCnt_next_period {s : State} (hwf : s.cfg.wf = true) (hcnt : s.pwmCnt.toNat < s.cfg.pwmPeriod) :
    (tickTimes (s.pwmCnt.toNat + 1) s).pwmCnt.toNat = s.cfg.pwmPeriod - 1 := by
  obtain ⟨hlt, hback⟩ := tickTimes_pwmCnt_modEq (s.pwmCnt.toNat + 1) hwf hcnt
  have hstart : s.cfg.pwmPeriod - 1 + (s.pwmCnt.toNat + 1) ≡ s.pwmCnt.toNat [MOD s.cfg.pwmPeriod] := by
    have hsum : s.cfg.pwmPeriod - 1 + (s.pwmCnt.toNat + 1) = s.cfg.pwmPeriod + s.pwmCnt.toNat := by omega
    rw [hsum]
    exact Nat.add_mod_left _ _
  exact ((hback.trans hstart.symm).add_right_cancel' _).eq_of_lt_of_lt hlt (by omega)

/-! ## The waveform (R143, R144) -/

theorem pwmOut_of_forcedLow {s : State} (h : s.pwmMode = .forcedLow) : pwmOut s = false := by simp [pwmOut, h]

theorem pwmOut_of_forcedHigh {s : State} (h : s.pwmMode = .forcedHigh) : pwmOut s = true := by simp [pwmOut, h]

theorem pwmOut_of_compare {s : State} (h : s.pwmMode = .compare) :
    pwmOut s = decide (s.pwmCmp.toNat ≤ s.pwmCnt.toNat) := by simp [pwmOut, h]

/-- An output that is the same at each of `n` ticks. -/
theorem pwmWave_eq_replicate {n : Nat} {s : State} {b : Bool} (h : ∀ i < n, pwmOut (tickTimes i s) = b) :
    pwmWave n s = List.replicate n b := by
  induction n generalizing s with
  | zero => rfl
  | succ n ih =>
    have hhead : pwmOut s = b := h 0 n.succ_pos
    have htail : pwmWave n (tick s) = List.replicate n b := ih fun i hi => h (i + 1) (Nat.succ_lt_succ hi)
    rw [pwmWave, hhead, htail, List.replicate_succ]

theorem pwmWave_add (m n : Nat) (s : State) : pwmWave (m + n) s = pwmWave m s ++ pwmWave n (tickTimes m s) := by
  induction m generalizing s with
  | zero => rw [Nat.zero_add, pwmWave, tickTimes, List.nil_append]
  | succ m ih => rw [Nat.succ_add, pwmWave, ih, pwmWave, tickTimes, List.cons_append]

theorem pwmWave_of_forcedLow {s : State} (h : s.pwmMode = .forcedLow) (n : Nat) :
    pwmWave n s = List.replicate n false :=
  pwmWave_eq_replicate fun i _ => pwmOut_of_forcedLow ((tickTimes_pwmMode i s).trans h)

theorem pwmWave_of_forcedHigh {s : State} (h : s.pwmMode = .forcedHigh) (n : Nat) :
    pwmWave n s = List.replicate n true :=
  pwmWave_eq_replicate fun i _ => pwmOut_of_forcedHigh ((tickTimes_pwmMode i s).trans h)

section
variable {s : State} (hmode : s.pwmMode = .compare)
include hmode

/-- The output within a countdown. -/
theorem pwmOut_tickTimes_of_le {i : Nat} (hi : i ≤ s.pwmCnt.toNat) :
    pwmOut (tickTimes i s) = decide (s.pwmCmp.toNat ≤ s.pwmCnt.toNat - i) := by
  rw [pwmOut_of_compare ((tickTimes_pwmMode i s).trans hmode), tickTimes_pwmCmp, tickTimes_pwmCnt_of_le hi]

/-- A countdown is high down to the threshold and low below it: `PWM_CNT + 1 − PWM_CMP` of its ticks are high, if it
lasts that long. -/
theorem pwmWave_countdown {n : Nat} (hn : n ≤ s.pwmCnt.toNat + 1) :
    pwmWave n s = List.replicate (min n (s.pwmCnt.toNat + 1 - s.pwmCmp.toNat)) true
      ++ List.replicate (n - (s.pwmCnt.toNat + 1 - s.pwmCmp.toNat)) false := by
  generalize hhigh : min n (s.pwmCnt.toNat + 1 - s.pwmCmp.toNat) = high
  generalize hlow : n - (s.pwmCnt.toNat + 1 - s.pwmCmp.toNat) = low
  have hsum : n = high + low := by omega
  rw [hsum, pwmWave_add]
  congr 1
  · refine pwmWave_eq_replicate fun i hi => ?_
    rw [pwmOut_tickTimes_of_le hmode (by omega)]
    exact decide_eq_true (by omega)
  · refine pwmWave_eq_replicate fun i hi => ?_
    rw [← tickTimes_add, pwmOut_tickTimes_of_le hmode (by omega)]
    exact decide_eq_false (by omega)

theorem count_pwmWave_countdown {n : Nat} (hn : n ≤ s.pwmCnt.toNat + 1) :
    (pwmWave n s).count true = min n (s.pwmCnt.toNat + 1 - s.pwmCmp.toNat) := by
  simp [pwmWave_countdown hmode hn, List.count_replicate]

/-- A window of one period is the rest of one countdown and the beginning of the next (R159). -/
theorem count_pwmWave_period (hwf : s.cfg.wf = true) (hcnt : s.pwmCnt.toNat < s.cfg.pwmPeriod)
    (hcmp : s.pwmCmp.toNat ≤ s.cfg.pwmPeriod) :
    (pwmWave s.cfg.pwmPeriod s).count true = s.cfg.pwmPeriod - s.pwmCmp.toNat := by
  obtain ⟨rest, hperiod⟩ := Nat.exists_eq_add_of_le (Nat.succ_le_of_lt hcnt)
  have hnext := tickTimes_pwmCnt_next_period hwf hcnt
  have hfirst := count_pwmWave_countdown hmode le_rfl
  have hsecond : (pwmWave rest (tickTimes (s.pwmCnt.toNat + 1) s)).count true
      = min rest (s.cfg.pwmPeriod - 1 + 1 - s.pwmCmp.toNat) := by
    rw [count_pwmWave_countdown ((tickTimes_pwmMode _ s).trans hmode) (by omega), hnext, tickTimes_pwmCmp]
  calc (pwmWave s.cfg.pwmPeriod s).count true
      = (pwmWave (s.pwmCnt.toNat + 1) s).count true
          + (pwmWave rest (tickTimes (s.pwmCnt.toNat + 1) s)).count true := by
        rw [hperiod, pwmWave_add, List.count_append]
    _ = s.cfg.pwmPeriod - s.pwmCmp.toNat := by omega

end

/-! ## The obligations about the waveform -/

/-- Settles O34: a forced mode is forced at every tick. -/
theorem setDutyBoundaryCases : Obligations.SetDutyBoundaryCases := fun s =>
  ⟨⟨setDuty_zero s, pwmWave_of_forcedLow rfl⟩, setDuty_hundred s, pwmWave_of_forcedHigh rfl⟩

/-- Settles O33: the quotient is below `P`; where it is 0 the counter, which stays below `P`, never reaches the
threshold. -/
theorem setDutyThreshold : Obligations.SetDutyThreshold := by
  intro e s hwf hpos hle
  obtain ⟨c, hset, hc⟩ := setDuty_between_spec hpos hle hwf
  have hlt := threshold_quotient_lt (wf_period hwf).1 hle
  obtain ⟨hmin, hmax⟩ : 1 ≤ c.toNat ∧ c.toNat ≤ s.cfg.pwmPeriod := by omega
  rw [hset]
  refine ⟨hc, hmin, hmax, rfl, fun hzero hcnt => ?_⟩
  have hperiod : c.toNat = s.cfg.pwmPeriod := by omega
  refine ⟨hperiod, fun n => pwmWave_eq_replicate fun i _ => ?_⟩
  obtain ⟨hbelow, -⟩ :=
    tickTimes_pwmCnt_modEq (s := { s with pwmMode := .compare, pwmCmp := c }) i hwf hcnt
  rw [pwmOut_of_compare (tickTimes_pwmMode i _), tickTimes_pwmCmp, hperiod]
  exact decide_eq_false hbelow.not_ge

/-- Settles O35: a period from its start is one whole countdown. -/
theorem waveformIsEdgeAligned : Obligations.WaveformIsEdgeAligned := by
  intro s hwf hmode hcmp hstart
  have hlast : s.pwmCnt.toNat + 1 = s.cfg.pwmPeriod := by
    rw [hstart, Nat.sub_add_cancel (wf_period hwf).1]
  rw [pwmWave_countdown hmode hlast.ge, hlast, min_eq_right (Nat.sub_le _ _), Nat.sub_sub_self hcmp]

/-- Settles O36: the boundary duties force the output, the others program the threshold of the counted window. -/
theorem highTicksPerPeriod : Obligations.HighTicksPerPeriod := by
  intro e s hwf hcnt
  obtain rfl | rfl | ⟨hpos, hle⟩ := percent_cases e
  · rw [setDuty_zero, pwmWave_of_forcedLow rfl]
    simp [List.count_replicate]
  · rw [setDuty_hundred, pwmWave_of_forcedHigh rfl, List.count_replicate_self]
    exact (Nat.mul_div_cancel_left _ (by decide)).symm
  · obtain ⟨c, hset, hc⟩ := setDuty_between_spec hpos hle hwf
    have hlt := threshold_quotient_lt (wf_period hwf).1 hle
    have hwindow := count_pwmWave_period (s := { s with pwmMode := .compare, pwmCmp := c }) rfl hwf hcnt
      (hc.trans_le (Nat.sub_le _ _))
    rw [hset]
    exact hwindow.trans ((congrArg (s.cfg.pwmPeriod - ·) hc).trans (Nat.sub_sub_self hlt.le))

end Sys2Proof.Machine
end

section
/-! The actuator as a table indexed by `MOTION` and `CMD_REG` (spec/44_pwm_actuation.md R158): a step leaves the entry
as it is, stops, or is a command that enters its own row. -/

namespace Sys2Proof.Machine

/-! ## The entries of the table -/

theorem actuatorTable_idle {s : State} (hm : s.motion = .idle) (hduty : s.actDuty = 0) (hlines : s.dir = 0b00) :
    ActuatorTable s := by
  simp [ActuatorTable, hm, hduty, hlines]

theorem actuatorTable_converging {s : State} (hm : s.motion = .converging) (hduty : s.actDuty = s.cfg.rotDuty)
    (hlines : s.dir = dirCode (rotationDirection s.cfg.beaconDir)) : ActuatorTable s := by
  simp [ActuatorTable, hm, hduty, hlines]

theorem actuatorTable_executing {s : State} {i : Instr} {row : CommandRow} (hm : s.motion = .executing)
    (hcmd : s.cmdReg = encode s.cfg i) (hrow : commandRow s.cfg i = some row) (hduty : s.actDuty = row.duty)
    (hlines : s.dir = row.dirLines) : ActuatorTable s := by
  rw [ActuatorTable, hm]
  exact ⟨i, row, hcmd.symm, hrow, hduty, hlines⟩

/-- The stop state is the entry of `Idle`. -/
theorem StoppedState.actuatorTable {s : State} (h : StoppedState s) : ActuatorTable s :=
  actuatorTable_idle h.motion h.duty h.lines

/-! ## The commands -/

/-- A known command names itself in `CMD_REG` (spec/40_dispatcher.md R76). -/
theorem cmdReg_of_exec {i : Instr} {s t : State} (hi : i ≠ .nocmd) (h : exec i s = .next t) :
    t.cmdReg = encode s.cfg i := by
  cases i with
  | nocmd => exact absurd rfl hi
  | _ =>
    cases h
    rw [dispatchKnown_eq]
    rfl

/-- Every command has a row; the sentinel is none (spec/30_encoding.md R70). -/
theorem commandRow_isSome (c : Cfg) {i : Instr} (hi : i ≠ .nocmd) : ∃ row, commandRow c i = some row := by
  cases i with
  | nocmd => exact absurd rfl hi
  | _ => exact ⟨_, rfl⟩

/-- A command that sets `MOTION` to Executing enters its row. -/
theorem actuatorTable_of_runsUntilEnded {i : Instr} {s t : State} (hwf : s.cfg.wf = true)
    (hruns : runsUntilEnded i = true) (hexec : exec i s = .next t) : ActuatorTable t := by
  have hi : i ≠ .nocmd := by rintro rfl; cases hruns
  have hcfg : t.cfg = s.cfg := (commandWrites_of_exec hi hexec).cfg
  obtain ⟨row, hrow⟩ := commandRow_isSome s.cfg hi
  have hagrees := agreesWithRow_of_exec hwf hrow hexec
  exact actuatorTable_executing ((commandLeaves_of_exec hi hexec).executing hruns)
    (hcfg ▸ cmdReg_of_exec hi hexec) (hcfg ▸ hrow) hagrees.duty hagrees.dirLines

theorem actuatorTable_exec {i : Instr} {s t : State} (hwf : s.cfg.wf = true) (h : ActuatorTable s)
    (hexec : exec i s = .next t) : ActuatorTable t := by
  cases i with
  | nocmd =>
    cases hexec
    exact h
  | stop => exact (stoppedState_of_exec (.inl rfl) hexec).actuatorTable
  | endRun => exact (stoppedState_of_exec (.inr rfl) hexec).actuatorTable
  | alignToBeacon =>
    cases hexec
    obtain ⟨m, c, hcmd, -⟩ := dispatchKnown_align_spec s.cfg.opAlignToBeacon s
    rw [hcmd]
    exact actuatorTable_converging rfl rfl rfl
  | _ => exact actuatorTable_of_runsUntilEnded hwf rfl hexec

/-! ## Every step -/

/-- An edge stops or does not touch the actuator (R157). -/
theorem actuatorTable_edge {s : State} (h : ActuatorTable s) : ActuatorTable (edge s) := by
  obtain ⟨-, he⟩ | ⟨-, -, he⟩ | ⟨-, -, hz, a, -, rfl, ⟨-, he⟩ | ⟨-, -, he⟩ | ⟨-, -, he⟩⟩ := edge_spec s <;> rw [he]
  · exact h
  · exact h
  · exact h
  · rw [converge_eq]
    exact actuatorTable_idle rfl rfl rfl
  · exact h

/-- The self-event's handler renews the entry of `Converging`, or does not touch the actuator (R133). -/
theorem actuatorTable_handleContinue {s : State} (h : ActuatorTable s) : ActuatorTable (handleContinue s) := by
  obtain ⟨-, hc⟩ | ⟨hm, m, c, hc, -⟩ := handleContinue_spec s <;> rw [hc]
  · exact h
  · exact actuatorTable_converging hm rfl rfl

/-- The line sensor's event stops or does nothing (R96). -/
theorem actuatorTable_lineDone {s : State} (h : ActuatorTable s) : ActuatorTable (lineDone s) := by
  rw [lineDone_eq]
  split_ifs
  · exact actuatorTable_idle rfl rfl rfl
  · exact h

theorem actuatorTable_dispatch {b : Byte} {s t : State} (hwf : s.cfg.wf = true) (h : ActuatorTable s)
    (hdisp : dispatch b s = .next t) : ActuatorTable t := by
  obtain ⟨i, -, hexec⟩ | ⟨b', -, rfl⟩ := dispatch_cases hdisp
  · exact actuatorTable_exec hwf h hexec
  · exact h

theorem actuatorTable_perform {k : ScheduledStep} {s t : State} (h : ActuatorTable s) (hstep : perform k s = .next t) :
    ActuatorTable t := by
  obtain ⟨hwf, ⟨-, rfl⟩ | ⟨b, -, hdisp⟩ | ⟨-, -, rfl⟩ | ⟨-, rfl⟩ | ⟨-, -, rfl⟩ | ⟨-, rfl⟩ | ⟨v, -, rfl⟩ | ⟨-, rfl⟩⟩ :=
    perform_cases hstep
  · obtain ⟨a, n, p, htick, -⟩ := tick_spec s
    rw [htick]
    exact h
  · exact actuatorTable_dispatch hwf h hdisp
  · rw [wdtIsr_eq]
    exact actuatorTable_idle rfl rfl rfl
  · exact actuatorTable_edge h
  · exact actuatorTable_handleContinue h
  · exact actuatorTable_lineDone h
  · obtain ⟨-, ha⟩ | ⟨p, m, c, -, ha, -⟩ := adSample_spec v s <;> rw [ha] <;> exact h
  · exact actuatorTable_idle rfl rfl rfl

/-- Settles O54: agent by agent; taking a step off the schedule touches no register, and the reset state is stopped. -/
theorem actuatorTableKept : Obligations.ActuatorTableKept := by
  refine ⟨fun s t h hstep => ?_, fun c => (stoppedState_resetWith c).actuatorTable⟩
  have hpop : ActuatorTable (popSchedule s) := h
  exact actuatorTable_perform hpop hstep

end Sys2Proof.Machine
end

section
/-! The whole-machine rules of spec/60_exceptions.md R161, R166 and R172: every enabled step completes, at most one source
is live, and interrupt context touches the actuator only by stopping. -/

namespace Sys2Proof.Machine

/-! ## Every enabled step completes (R161) -/

/-- The link's step completes for every byte (spec/40_dispatcher.md R76). -/
theorem dispatch_completes (b : Byte) (s : State) : ∃ t, dispatch b s = .next t := by
  cases h : decode s.cfg b with
  | instr i => exact dispatch_of_decode h ▸ exec_completes i s
  | unknownOpcode b' => exact ⟨_, dispatch_of_unknown h⟩

/-- Settles O9: the two deferred steps go by their pending bit, and every other agent completes. -/
theorem everyEnabledStepCompletes : Obligations.EveryEnabledStepCompletes := by
  intro k s hwf
  cases k with
  | wdtIsr =>
    obtain ⟨henabled, hrefused⟩ := watchdogHandlerResult s hwf
    cases hp : s.wdtPend with
    | true => exact .inl ⟨_, henabled hp⟩
    | false => exact .inr (.inl ⟨rfl, rfl, hrefused hp⟩)
  | handleContinue =>
    cases hc : s.contPend with
    | true => exact .inl ⟨_, perform_handleContinue hwf hc⟩
    | false => exact .inr (.inr ⟨rfl, rfl, perform_handleContinue_refused hwf hc⟩)
  | dispatch b => exact .inl (perform_dispatch hwf b ▸ dispatch_completes b s)
  | tick | edge | lineDone | adSample v | reset => exact .inl ⟨_, if_pos hwf⟩

/-! ## At most one live source (R166) -/

/-- The coupling invariants hold in every state that a run from reset reaches (spec/10_state.md R49, R50). -/
theorem couplingInv_of_reachable {c : Cfg} {ks : List ScheduledStep} {s : State} (hwf : c.wf = true)
    (h : performAll ks (State.resetWith c) = .next s) : CouplingInv s :=
  performAll_invariant (ok := fun _ => True) (fun _ _ _ _ hinv hstep => couplingInv_perform hinv hstep) ks _ s
    (fun _ _ => trivial) (couplingInv_resetWith hwf) h

/-- The watchdog and the line sensor are live while a command executes, a rotation the one and the drive to the line
the other; the capture is live while aligning (spec/10_state.md R50(a), (d), (e), (f)). -/
theorem CouplingInv.at_most_one_source {s : State} (h : CouplingInv s) :
    [s.wdtArmed || s.wdtPend, s.capIe, s.lineIe].count true ≤ 1 := by
  by_cases hm : s.motion = .executing
  · have hcap : s.capIe = false := (h.detector_off (by simp [hm])).1
    cases hl : s.lineIe with
    | true =>
      obtain ⟨ha, hp⟩ := h.watchdog_off_of_line hl
      simp [ha, hp, hcap]
    | false => cases s.wdtArmed || s.wdtPend <;> simp [hcap]
  · obtain ⟨ha, hp, hl⟩ := h.watchdog_line_off hm
    cases s.capIe <;> simp [ha, hp, hl]

/-- Settles O55: the coupling invariants leave room for one source. -/
theorem atMostOneSourceIsLive : Obligations.AtMostOneSourceIsLive := fun _ _ _ hwf h =>
  (couplingInv_of_reachable hwf h).at_most_one_source

/-! ## Interrupt context (R172) -/

/-- From `s` to `t` the actuator and `MOTION` are left as they are, or stopped (spec/44_pwm_actuation.md R157). -/
def KeepsOrStops (s t : State) : Prop :=
  (t.actDuty = s.actDuty ∧ t.dir = s.dir ∧ t.pwmMode = s.pwmMode ∧ t.motion = s.motion)
    ∨ (t.actDuty = 0 ∧ t.dir = 0b00 ∧ t.pwmMode = .forcedLow ∧ t.motion = .idle)

theorem keepsOrStops_wdtIsr (s : State) : KeepsOrStops s (wdtIsr s) := by
  rw [wdtIsr_eq]
  exact .inr ⟨rfl, rfl, rfl, rfl⟩

/-- Of the outcomes of an edge only the convergence touches the actuator. -/
theorem keepsOrStops_edge (s : State) : KeepsOrStops s (edge s) := by
  obtain ⟨-, he⟩ | ⟨-, -, he⟩ | ⟨-, -, hz, a, -, rfl, ⟨-, he⟩ | ⟨-, -, he⟩ | ⟨-, -, he⟩⟩ := edge_spec s <;> rw [he]
  · exact .inl ⟨rfl, rfl, rfl, rfl⟩
  · exact .inl ⟨rfl, rfl, rfl, rfl⟩
  · exact .inl ⟨rfl, rfl, rfl, rfl⟩
  · rw [converge_eq]
    exact .inr ⟨rfl, rfl, rfl, rfl⟩
  · exact .inl ⟨rfl, rfl, rfl, rfl⟩

theorem keepsOrStops_of_perform {k : ScheduledStep} {s t : State} (hk : k = .wdtIsr ∨ k = .edge)
    (h : perform k s = .next t) : KeepsOrStops s t := by
  obtain ⟨-, hcases⟩ := perform_cases h
  obtain rfl | rfl := hk
  · obtain ⟨-, rfl⟩ : s.wdtPend = true ∧ t = wdtIsr s := by simpa using hcases
    exact keepsOrStops_wdtIsr s
  · obtain rfl : t = edge s := by simpa using hcases
    exact keepsOrStops_edge s

/-- Settles O56: the two handlers are no writers of what R172 protects (spec/10_state.md R51) and owe no request, and
the rest is what they do to the actuator. -/
theorem interruptContextOnlyStops : Obligations.InterruptContextOnlyStops := by
  intro k s t hk h
  have hne {j : ScheduledStep} (hisr : j ≠ .wdtIsr) (hedge : j ≠ .edge) : k ≠ j := by
    rintro rfl
    exact hk.elim hisr hedge
  have hknown : dispatchesKnown s.cfg k = false := by obtain rfl | rfl := hk <;> rfl
  have hrotate : dispatchesRotate s.cfg k = false := by obtain rfl | rfl := hk <;> rfl
  have howed : requestsOf s.cfg s.gate k = 0 := by obtain rfl | rfl := hk <;> rfl
  have hreset : k ≠ .reset := hne nofun nofun
  have htick : k ≠ .tick := hne nofun nofun
  have hsample (v : AdValue) : k ≠ .adSample v := hne nofun nofun
  have hwrites := ownWrites_of_perform h hreset
  obtain ⟨hcnt, htimer⟩ := hwrites.counters htick
  obtain ⟨harmed, hcount⟩ := hwrites.countdown htick hknown
  have hreq : reqCount t = reqCount s := by rw [(requestsLast_of_perform hreset h).reqCount_eq, howed, Nat.add_zero]
  exact ⟨hwrites.gate (hne nofun nofun), hwrites.command hknown, hwrites.lineEnable (hne nofun nofun) hknown,
    hwrites.scale hsample, harmed, hcount, hwrites.timeout hrotate,
    hwrites.pwmThreshold (hne nofun nofun) hsample hknown, hcnt, htimer, hreq, keepsOrStops_of_perform hk h⟩

end Sys2Proof.Machine
end

section
/-! The duty-cycle scaling input commutes with every step (spec/60_exceptions.md R168): it writes the scale and the
compare pair only, and what a step does to the other registers does not read these three. One rule per operation, in
the order of the model's files. -/

namespace Sys2Proof.Machine

/-- The state with the registers that `ad_sample` writes set to fixed values. -/
def forgetScaling (s : State) : State := { s with scale := 0, pwmMode := .forcedLow, pwmCmp := 0 }

/-- What `f` does to the other registers does not read the scale and the compare pair. -/
def IgnoresScaling (f : State → State) : Prop := ∀ s, forgetScaling (f (forgetScaling s)) = forgetScaling (f s)

theorem IgnoresScaling.comp {f g : State → State} (hf : IgnoresScaling f) (hg : IgnoresScaling g) :
    IgnoresScaling fun s => f (g s) := fun s => by
  rw [← hf, hg, hf]

/-- An operation that ignores the scaling, as the outcome of a step. -/
theorem IgnoresScaling.outcome {f : State → State} (hf : IgnoresScaling f) (s : State) :
    mapNext forgetScaling (.next (f (forgetScaling s))) = mapNext forgetScaling (.next (f s)) :=
  congrArg Host.Outcome.next (hf s)

/-! ## What `ad_sample` writes -/

@[simp] theorem forgetScaling_applyDuty (s : State) : forgetScaling (applyDuty s) = forgetScaling s := by
  obtain ⟨m, c, h, -⟩ := applyDuty_spec s
  rw [h]
  rfl

@[simp] theorem forgetScaling_adSample (v : AdValue) (s : State) : forgetScaling (adSample v s) = forgetScaling s := by
  obtain ⟨-, h⟩ | ⟨p, m, c, -, h, -⟩ := adSample_spec v s <;> rw [h]
  rfl

/-- States that differ in the scale and the compare pair only agree on what R168 names. -/
theorem sameControl_of_forgetScaling_eq {s t : State} (h : forgetScaling s = forgetScaling t) : SameControl s t := by
  have hs : SameControl s (forgetScaling s) := ⟨rfl, rfl, rfl, rfl, rfl, rfl, rfl, rfl, rfl⟩
  rw [h] at hs
  exact hs

/-! ## The shared operations and the agents -/

theorem applyDuty_ignoresScaling : IgnoresScaling applyDuty := fun s => by
  rw [forgetScaling_applyDuty, forgetScaling_applyDuty]
  rfl

theorem startRotation_ignoresScaling (r : Rotation) : IgnoresScaling (startRotation r) :=
  applyDuty_ignoresScaling.comp fun _ => rfl

theorem rotateTowardBeacon_ignoresScaling : IgnoresScaling rotateTowardBeacon := fun s =>
  startRotation_ignoresScaling s.cfg.beaconDir s

theorem requestNext_ignoresScaling : IgnoresScaling requestNext := fun s => by
  rw [requestNext_eq, requestNext_eq]
  rfl

theorem tick_ignoresScaling : IgnoresScaling tick := fun s => by
  unfold tick tickWdt
  rw [tickPwm_eq, tickPwm_eq]
  simp only [apply_ite forgetScaling]
  rfl

theorem wdtIsr_ignoresScaling : IgnoresScaling wdtIsr := fun s => by
  rw [wdtIsr_eq, wdtIsr_eq]
  rfl

theorem testSample_ignoresScaling (hz : Nat) : IgnoresScaling (testSample hz) := fun s => by
  simp only [testSample, converge_eq, apply_ite forgetScaling]
  rfl

theorem estimatorSample_ignoresScaling (p : Word32) : IgnoresScaling (estimatorSample p) := fun s => by
  simp only [estimatorSample, apply_ite forgetScaling]
  exact if_congr Iff.rfl rfl (((testSample_ignoresScaling _).comp fun _ => rfl) s)

theorem edge_ignoresScaling : IgnoresScaling edge := fun s => by
  simp only [edge, apply_ite forgetScaling]
  exact if_congr Iff.rfl (((estimatorSample_ignoresScaling _).comp fun _ => rfl) s) rfl

theorem handleContinue_ignoresScaling : IgnoresScaling handleContinue := fun s => by
  have hrotate : IgnoresScaling fun s => rearmSampling (rotateTowardBeacon { s with contPend := false }) :=
    IgnoresScaling.comp (f := rearmSampling) (fun _ => rfl) (rotateTowardBeacon_ignoresScaling.comp fun _ => rfl)
  simp only [handleContinue, apply_ite forgetScaling]
  exact if_congr Iff.rfl (hrotate s) rfl

theorem lineDone_ignoresScaling : IgnoresScaling lineDone := fun s => by
  simp only [lineDone_eq, apply_ite forgetScaling]
  rfl

theorem adSample_ignoresScaling (v : AdValue) : IgnoresScaling (adSample v) := fun s => by
  rw [forgetScaling_adSample, forgetScaling_adSample]
  rfl

/-! ## The link: the commands and their dispatch -/

theorem bodyStop_ignoresScaling : IgnoresScaling bodyStop := fun s => by
  rw [bodyStop_eq, bodyStop_eq]
  rfl

theorem bodyEndRun_ignoresScaling : IgnoresScaling bodyEndRun := fun s => by
  rw [bodyEndRun_eq, bodyEndRun_eq]
  rfl

theorem bodyRotate_ignoresScaling (ms : Nat) (r : Rotation) : IgnoresScaling (bodyRotate ms r) :=
  IgnoresScaling.comp (f := fun s => { s with motion := .executing }) (fun _ => rfl)
    ((startRotation_ignoresScaling r).comp (g := wdtArm ms) fun _ => rfl)

theorem bodyDrive_ignoresScaling (d : Percent) (h : Heading) : IgnoresScaling (bodyDrive d h) :=
  IgnoresScaling.comp (f := fun s => { s with motion := .executing }) (fun _ => rfl)
    (applyDuty_ignoresScaling.comp fun _ => rfl)

theorem bodyDriveToLine_ignoresScaling : IgnoresScaling bodyDriveToLine :=
  (bodyDrive_ignoresScaling fullDuty .forward).comp fun _ => rfl

theorem bodyAlignToBeacon_ignoresScaling : IgnoresScaling bodyAlignToBeacon :=
  IgnoresScaling.comp (f := fun s => { rearmSampling s with motion := .converging }) (fun _ => rfl)
    rotateTowardBeacon_ignoresScaling

/-- The frame of a known command around a body that ignores the scaling (spec/40_dispatcher.md R76). -/
theorem dispatchKnown_ignoresScaling {body : State → State} (hbody : IgnoresScaling body) (b : Byte) :
    IgnoresScaling (dispatchKnown b body) :=
  requestNext_ignoresScaling.comp <|
    IgnoresScaling.comp (f := fun s => { s with cmdReg := b }) (fun _ => rfl) (hbody.comp (g := retire) fun _ => rfl)

theorem exec_forgetScaling (i : Instr) (s : State) :
    mapNext forgetScaling (exec i (forgetScaling s)) = mapNext forgetScaling (exec i s) := by
  cases i with
  | stop => exact (dispatchKnown_ignoresScaling bodyStop_ignoresScaling _).outcome s
  | endRun => exact (dispatchKnown_ignoresScaling bodyEndRun_ignoresScaling _).outcome s
  | nocmd => rfl
  | alignToBeacon => exact (dispatchKnown_ignoresScaling bodyAlignToBeacon_ignoresScaling _).outcome s
  | driveToLine => exact (dispatchKnown_ignoresScaling bodyDriveToLine_ignoresScaling _).outcome s
  | rotateCW90 | rotateCW45 | rotateCCW90 | rotateCCW45 =>
    exact (dispatchKnown_ignoresScaling (bodyRotate_ignoresScaling _ _) _).outcome s
  | driveForwardHalf | driveForwardFull | driveReverseHalf | driveReverseFull =>
    exact (dispatchKnown_ignoresScaling (bodyDrive_ignoresScaling _ _) _).outcome s

theorem dispatch_forgetScaling (b : Byte) (s : State) :
    mapNext forgetScaling (dispatch b (forgetScaling s)) = mapNext forgetScaling (dispatch b s) := by
  cases h : decode s.cfg b with
  | instr i =>
    have h' : decode (forgetScaling s).cfg b = .instr i := h
    rw [dispatch_of_decode h, dispatch_of_decode h', exec_forgetScaling]
  | unknownOpcode b' =>
    have h' : decode (forgetScaling s).cfg b = .unknownOpcode b' := h
    rw [dispatch_of_unknown h, dispatch_of_unknown h']
    exact requestNext_ignoresScaling.outcome s

/-! ## Every step, in both orders -/

/-- Every step does the same to the other registers, enabled or refused, whatever the scale and the compare pair. -/
theorem perform_forgetScaling (k : ScheduledStep) (s : State) :
    mapNext forgetScaling (perform k (forgetScaling s)) = mapNext forgetScaling (perform k s) := by
  simp only [perform, apply_ite (mapNext forgetScaling), mapNext_refused]
  refine if_congr Iff.rfl ?_ rfl
  cases k with
  | tick => exact tick_ignoresScaling.outcome s
  | dispatch b => exact dispatch_forgetScaling b s
  | wdtIsr =>
    simp only [apply_ite (mapNext forgetScaling), mapNext_next, mapNext_refused, wdtIsr_ignoresScaling s]
    rfl
  | edge => exact edge_ignoresScaling.outcome s
  | handleContinue =>
    simp only [apply_ite (mapNext forgetScaling), mapNext_next, mapNext_refused, handleContinue_ignoresScaling s]
    rfl
  | lineDone => exact lineDone_ignoresScaling.outcome s
  | adSample v => exact (adSample_ignoresScaling v).outcome s
  | reset => rfl

/-- A configuration that violates spec/00_scope.md R5 is refused by every step (notes/assumptions/8.md). -/
theorem perform_of_illFormed {s : State} (hwf : s.cfg.wf = false) (k : ScheduledStep) :
    perform k s = .refused .illFormedConfig := by simp [perform, hwf]

theorem perform_adSample {s : State} (hwf : s.cfg.wf = true) (v : AdValue) :
    perform (.adSample v) s = .next (adSample v s) := if_pos hwf

theorem adSample_cfg (v : AdValue) (s : State) : (adSample v s).cfg = s.cfg := by
  obtain ⟨-, h⟩ | ⟨p, m, c, -, h, -⟩ := adSample_spec v s <;> rw [h]

/-- A step after an A/D sample is the step from the sampled state: the sample is performed or the configuration is
refused, and then it is refused after the sample too. -/
theorem performAll_adSample_first (k : ScheduledStep) (v : AdValue) (s : State) :
    performAll [.adSample v, k] s = perform k (adSample v s) := by
  cases hwf : s.cfg.wf with
  | true =>
    simp only [performAll, perform_adSample hwf]
    cases perform k (adSample v s) <;> rfl
  | false =>
    have hwf' : (adSample v s).cfg.wf = false := adSample_cfg v s ▸ hwf
    simp only [performAll, perform_of_illFormed hwf, perform_of_illFormed hwf']

/-- An A/D sample after a step is performed whenever the step is: no step writes the configuration. -/
theorem performAll_adSample_last (k : ScheduledStep) (v : AdValue) (s : State) :
    performAll [k, .adSample v] s = mapNext (adSample v) (perform k s) := by
  cases h : perform k s with
  | next t =>
    have hwf : t.cfg.wf = true := perform_cfg h ▸ (perform_cases h).1
    simp only [performAll, h, perform_adSample hwf, mapNext_next]
  | fault r => cases r
  | refused r => simp only [performAll, h, mapNext_refused]

/-- Both orders of a step and an A/D sample have the same outcome but for the scale and the compare pair. -/
theorem performAll_adSample_comm (k : ScheduledStep) (v : AdValue) (s : State) :
    mapNext forgetScaling (performAll [k, .adSample v] s) = mapNext forgetScaling (performAll [.adSample v, k] s) := by
  have hlast (o : Host.Outcome State Fault Refusal) :
      mapNext forgetScaling (mapNext (adSample v) o) = mapNext forgetScaling o := by
    cases o <;> simp [mapNext]
  calc mapNext forgetScaling (performAll [k, .adSample v] s)
    _ = mapNext forgetScaling (perform k s) := by rw [performAll_adSample_last, hlast]
    _ = mapNext forgetScaling (perform k (forgetScaling s)) := (perform_forgetScaling k s).symm
    _ = mapNext forgetScaling (perform k (adSample v s)) := by
      rw [← forgetScaling_adSample v, perform_forgetScaling]
    _ = mapNext forgetScaling (performAll [.adSample v, k] s) := by rw [performAll_adSample_first]

/-- An outcome completes whatever is applied to its state. -/
theorem mapNext_completes_iff {f : State → State} {o : Host.Outcome State Fault Refusal} :
    (∃ t, mapNext f o = .next t) ↔ ∃ s, o = .next s := by
  cases o <;> simp [mapNext]

/-- Settles O58: the two outcomes are one but for the registers that `ad_sample` writes, none of which R168 names. -/
theorem scalingInputCommutes : Obligations.ScalingInputCommutes := by
  intro k v s
  have hcomm := performAll_adSample_comm k v s
  refine ⟨?_, fun a b ha hb => ?_⟩
  · rw [← mapNext_completes_iff (f := forgetScaling), hcomm, mapNext_completes_iff]
  · rw [ha, hb, mapNext_next, mapNext_next, Host.Outcome.next.injEq] at hcomm
    exact sameControl_of_forgetScaling_eq hcomm

end Sys2Proof.Machine
end

section
/-! The clock and reset (spec/70_reset_and_hazards.md R183, R186, R190): what one tick does to the two free-running
counters and to the watchdog, and the reset state, which is safe because it is a stopped state. -/

namespace Sys2Proof.Machine

/-! ## The tick (R190) -/

/-- The period counter reloads after 0, exactly since `P - 1` fits the register, and else counts down
(spec/44_pwm_actuation.md R142). -/
theorem tick_pwmCnt_toNat {s : State} (hwf : s.cfg.wf = true) :
    (tick s).pwmCnt.toNat = if s.pwmCnt.toNat = 0 then s.cfg.pwmPeriod - 1 else s.pwmCnt.toNat - 1 := by
  obtain ⟨-, hlt⟩ := wf_period hwf
  rw [tick_pwmCnt]
  by_cases h0 : s.pwmCnt = 0
  · have hreload : (BitVec.ofNat 16 (s.cfg.pwmPeriod - 1)).toNat = s.cfg.pwmPeriod - 1 :=
      Nat.mod_eq_of_lt (by omega)
    rw [if_pos h0, hreload, h0]
    rfl
  · have hpos : s.pwmCnt.toNat ≠ 0 := fun h => h0 (BitVec.eq_of_toNat_eq h)
    rw [if_neg h0, if_neg hpos]
    bv_omega

/-- The last tick of an armed watchdog's count is its expiry (spec/41_watchdog.md R105). -/
theorem tick_of_expiring {s : State} (harmed : s.wdtArmed = true) (hlast : s.wdtCount.toNat ≤ 1) : tick s = { s with
    pwmCnt := if s.pwmCnt = 0 then BitVec.ofNat 16 (s.cfg.pwmPeriod - 1) else s.pwmCnt - 1
    capTimer := s.capTimer + 1, wdtCount := 0, wdtArmed := false, wdtPend := true } := by
  obtain ⟨a, n, p, htick, ⟨hoff, -⟩ | ⟨-, -, rfl, rfl, rfl⟩ | ⟨-, hmore, -⟩⟩ := tick_spec s
  · exact absurd (harmed.symm.trans hoff) nofun
  · exact htick
  · exact absurd hmore hlast.not_gt

/-- Before its last tick an armed watchdog counts down and stays armed (R105). -/
theorem tick_of_counting {s : State} (harmed : s.wdtArmed = true) (hmore : 1 < s.wdtCount.toNat) : tick s = { s with
    pwmCnt := if s.pwmCnt = 0 then BitVec.ofNat 16 (s.cfg.pwmPeriod - 1) else s.pwmCnt - 1
    capTimer := s.capTimer + 1, wdtCount := s.wdtCount - 1 } := by
  obtain ⟨a, n, p, htick, ⟨hoff, -⟩ | ⟨-, hlast, -⟩ | ⟨-, -, rfl, rfl, rfl⟩⟩ := tick_spec s
  · exact absurd (harmed.symm.trans hoff) nofun
  · exact absurd hmore hlast.not_gt
  · rw [htick, ← harmed]

/-- Settles O20: a tick is enabled in every state; its three watchdog cases are `tick_of_disarmed`,
`tick_of_expiring` and `tick_of_counting`. -/
theorem tickResult : Obligations.TickResult := by
  intro s hwf
  have htimer : (tick s).capTimer.toNat = (s.capTimer.toNat + 1) % 2 ^ 32 := by
    rw [tick_capTimer, BitVec.toNat_add]
    rfl
  refine ⟨tick s, if_pos hwf, tick_pwmCnt_toNat hwf, htimer, fun hoff => ?disarmed, fun harmed hlast => ?expiring,
    fun harmed hmore => ?counting, ?frame⟩
  case disarmed =>
    rw [tick_of_disarmed hoff]
    exact ⟨rfl, hoff, rfl⟩
  case expiring =>
    rw [tick_of_expiring harmed hlast]
    exact ⟨rfl, rfl, rfl⟩
  case counting =>
    rw [tick_of_counting harmed hmore]
    have hpred : (s.wdtCount - 1).toNat = s.wdtCount.toNat - 1 := by bv_omega
    exact ⟨hpred, harmed, rfl⟩
  case frame =>
    obtain ⟨a, n, p, htick, -⟩ := tick_spec s
    rw [htick]

/-! ## Reset (R183) -/

/-- The threshold at reset is `P`, which fits the register (spec/10_state.md R52). -/
theorem performReset_pwmCmp_toNat {s : State} (hwf : s.cfg.wf = true) :
    (performReset s).pwmCmp.toNat = s.cfg.pwmPeriod :=
  Nat.mod_eq_of_lt (wf_period hwf).2

/-- The period counter at reset is `P - 1` (R52). -/
theorem performReset_pwmCnt_toNat {s : State} (hwf : s.cfg.wf = true) :
    (performReset s).pwmCnt.toNat = s.cfg.pwmPeriod - 1 :=
  Nat.mod_eq_of_lt (Nat.sub_lt_of_lt (wf_period hwf).2)

/-- Settles O29: the two registers that hold a parameter hold it exactly, and the others are the table of R52. -/
theorem resetStepResult : Obligations.ResetStepResult := fun s hwf =>
  ⟨performReset s, if_pos hwf, performReset_pwmCmp_toNat hwf, performReset_pwmCnt_toNat hwf, rfl⟩

/-! ## The reset state is safe (R186) -/

/-- In the stop state both direction lines are low (spec/10_state.md R25). -/
theorem StoppedState.dirLines_low {s : State} (h : StoppedState s) : dirL s = false ∧ dirR s = false :=
  dirLines_of_dir h.lines

/-- Settles O30: the reset state is a stopped state, so the outputs are low and every event finds its source off. -/
theorem resetStateIsSafe : Obligations.ResetStateIsSafe := by
  intro c hc
  have hwf : (State.resetWith c).cfg.wf = true := hc
  have hstop := stoppedState_resetWith c
  obtain ⟨hleft, hright⟩ := hstop.dirLines_low
  exact ⟨hstop.pwmOut_eq, hleft, hright, edgeIgnoredWhenDisabled _ hwf hstop.captureOff,
    (lineEventResult _ hwf).2 hstop.lineOff, perform_wdtIsr_refused hwf hstop.notFired,
    perform_handleContinue_refused hwf hstop.noContinue⟩

end Sys2Proof.Machine
end
